-- ==== Sys2Proof/Word.lean ====
section
/-! DEFINITION. Word.lean: the widths the spec gives its data (spec/00_scope.md R6 to R10). -/

namespace Sys2Proof

/-- One 32-bit bus word, command word or full-width register (R6 "register bus data width"). -/
abbrev Word := BitVec 32

/-- One luma sample, 8 bits unsigned (R6, R23). -/
abbrev Sample := BitVec 8

/-- One stored ("raw") coefficient, 16-bit two's complement, Q12.3 (R6, R12, R24). -/
abbrev Coeff := BitVec 16

/-- A 16-bit register field (R36, R37, R39, R41, R43). -/
abbrev Half := BitVec 16

/-- A byte offset inside the 4 KiB register window, `0x000..0xFFF` (R47). -/
abbrev Offset := BitVec 12

/-- An 8×8 block as the spec's `X[i][j]`, row index first (R10), with exact integer entries (R8).
It appears inside one engine step only (R45: the intermediate arrays are not state). -/
abbrev Matrix := Fin 8 → Fin 8 → Int

/-- A stored 8×8 block buffer, by linear element index `e = 8*i + j` (R10). -/
abbrev Block (α : Type) := Vector α 64

end Sys2Proof
end

