-- ==== Sys2Proof/Config.lean ====
section
/-! DEFINITION. Config.lean: what an implementation fixes and the values the spec leaves open. Each constant
below is opaque: it has no body, so no proof can use a value of it and every claim holds for every value.

The spec's OPEN parameters (R6, 92_eei_decisions.md) that are no value an instruction reads are plain data of the
model: `BASE` is `Slot.base`, `NUM_ENGINES` the length of a platform's list and `IRQ_LINE` the position in its list
of `irq` lines (Machine/Platform.lean), `LAT(op)` is where the engine's turn stands in `State.turns` (log entry 5). -/

namespace Sys2Proof

/-- FREE VALUE (R133, U1 "any value"; log entry 1). What an element of `PIX` that neither the host nor a command has
written since reset holds. Arguments: which engine of the platform it is (R128: each engine has its own state, so
nothing says that two of them agree), how many resets that engine has seen, and the element's linear index. -/
opaque Config.unwrittenPix : Nat → Nat → Nat → Sample

/-- FREE VALUE (R133, U1 "any value"; log entry 1). The same for an element of `COEF`, with the same
arguments. -/
opaque Config.unwrittenCoef : Nat → Nat → Nat → Coeff

/-- FREE VALUE (R55, U4 "any value"; log entry 2). What a host read of a result register or a buffer window returns
while `STATUS.BUSY = 1`. Arguments: which engine of the platform it is (R128), how many host writes, engine steps and
resets it has seen (R54 lets the value differ only when one of them intervenes: log entry 2, DEDUCED), and the offset
read. -/
opaque Config.busyRead : Nat → Nat → Nat → Word

end Sys2Proof
end

