-- ==== Sys2Proof/Syntax.lean ====
section
/-! DEFINITION. Syntax.lean: the commands (spec/30_encoding.md R64, one constructor per row of opcode_table.json),
the host's bus transactions (R52, R107) and the host assembly of R68 and R69. -/

namespace Sys2Proof

/-- The nine commands. `b` is the 1-bit immediate `B` of R63, the only operand of any command. -/
inductive Instr
  | nop                          -- OPC 0x00, R105
  | fdct                         -- OPC 0x01, R80
  | idct                         -- OPC 0x02, R81
  | embed (b : BitVec 1)         -- OPC 0x03, R89
  | extract                      -- OPC 0x04, R90
  | embedBlock (b : BitVec 1)    -- OPC 0x05, R91
  | extractBlock                 -- OPC 0x06, R92
  | cursor                       -- OPC 0x07, R98
  | capacity                     -- OPC 0x08, R102
  deriving DecidableEq, Repr

/-- The registers of the window map R47, by name. -/
inductive Reg
  | id | ctrl | status | cmd | pos | step | margin | result
  | frameW | frameH | frameCnt | hdrW | kidx
  | curFrame | curBy | curBx | capBits | capBytes
  deriving DecidableEq, Repr

/-- What an aligned offset of the window names (R47): a register, a word of the `PIX` or `COEF` window,
or nothing (`reserved`, `RAZ/WI`). -/
inductive Loc
  | reg (r : Reg)
  | pix (w : Fin 16)
  | coef (w : Fin 32)
  | reserved
  deriving DecidableEq, Repr

/-- One thing the host does in its turn (R20, R107). `bits` is the transaction's width; only 32 is served (R52). -/
inductive HostOp
  | rd (bits : Nat) (off : Offset)               -- a bus read at `BASE + off`
  | wr (bits : Nat) (off : Offset) (v : Word)    -- a bus write of `v` at `BASE + off`
  | wait                                         -- R69 `WAIT`: read `STATUS` again while `s[0] = 1`
  deriving DecidableEq, Repr

/-- Who acts in the next step (R53): the host issues its next transaction, the engine executes the accepted command,
or the reset input is asserted (R131). -/
inductive Turn
  | host | engine | reset
  deriving DecidableEq, Repr

/-- `<reg>` of R68: a register name, `PIX+<k>` or `COEF+<k>`. -/
inductive Place
  | reg (r : Reg)
  | pix (k : Nat)
  | coef (k : Nat)
  deriving DecidableEq, Repr

/-- One line of host assembly (R68) or one pseudo-instruction (R69), as written: the operands are the literals of
the text, so a line can be ill-formed (WellFormed.lean). -/
inductive Asm
  | wr (place : Place) (imm : Word)
  | rd (place : Place)
  | nop | fdct | idct
  | embed (b : Nat)
  | extract
  | embedBlock (b : Nat)
  | extractBlock | cursor | capacity
  | wait
  | loadPix (p : List Sample)
  | clearSt
  deriving DecidableEq, Repr

end Sys2Proof
end

