-- ==== Sys2Proof/WellFormed.lean ====
section
/-! DEFINITION. WellFormed.lean: the checks on syntax. A command's one operand is a 1-bit immediate, so every term of
`Instr` is one of the eleven legal words (R64) and needs no check; the checks are on the host's transactions (R52)
and on the host assembly as written (R68, R69). -/

namespace Sys2Proof

/-- Every command term is well formed: `B` is 1 bit wide (R63) and exists only where R65 allows it. -/
def Instr.wellFormed (_i : Instr) : Bool := true

/-- R52: the transaction moves one 32-bit word at an offset that is a multiple of 4. -/
def HostOp.wellFormed : HostOp → Bool
  | .rd bits off => bits == 32 && off.toNat % 4 == 0
  | .wr bits off _ => bits == 32 && off.toNat % 4 == 0
  | .wait => true

/-- R68: window word `k` of `PIX` is 0..15 (R49), of `COEF` 0..31 (R50). -/
def Place.wellFormed : Place → Bool
  | .reg _ => true
  | .pix k => k < 16
  | .coef k => k < 32

/-- R68: a bit operand is the literal 0 or 1; R69: `LOADPIX` names 64 samples. -/
def Asm.wellFormed : Asm → Bool
  | .wr p _ => p.wellFormed
  | .rd p => p.wellFormed
  | .embed b => b ≤ 1
  | .embedBlock b => b ≤ 1
  | .loadPix p => p.length == 64
  | .nop | .fdct | .idct | .extract | .extractBlock | .cursor | .capacity | .wait | .clearSt => true

end Sys2Proof
end

