-- ==== Sys2Proof/Decode.lean ====
section
/-! DEFINITION. Decode.lean: from a 32-bit command word to a command and back (spec/30_encoding.md R61 to R67). -/

namespace Sys2Proof

/-- Why a word is illegal, in the order R66 tests. -/
inductive Illegal
  | reservedBits      -- `RSV = w[31:9]` is not 0
  | reservedOpcode    -- `OPC` is `0x09..0xFF`
  | strayB            -- `B = 1` with an opcode other than `EMBED` and `EMBED_BLOCK`
  deriving DecidableEq, Repr

/-- What `decode` returns: `Cmd(opc, b)` or `Illegal` (R66). -/
inductive Decoded
  | cmd (i : Instr)
  | illegal (why : Illegal)
  deriving DecidableEq, Repr

/-- `OPC = w[7:0]` (R62). -/
def opcOf (w : Word) : BitVec 8 := w.extractLsb' 0 8

/-- `B = w[8]` (R63). -/
def bOf (w : Word) : BitVec 1 := w.extractLsb' 8 1

/-- `RSV = w[31:9]` (R61). -/
def rsvOf (w : Word) : BitVec 23 := w.extractLsb' 9 23

/-- The command an opcode `<= 0x08` names, with bit operand `b` (R64). -/
def commandOf (opc : BitVec 8) (b : BitVec 1) : Instr :=
  match opc.toNat with
  | 0 => .nop
  | 1 => .fdct
  | 2 => .idct
  | 3 => .embed b
  | 4 => .extract
  | 5 => .embedBlock b
  | 6 => .extractBlock
  | 7 => .cursor
  | _ => .capacity

/-- The decode of R66, total on every 32-bit word. -/
def decode (w : Word) : Decoded :=
  if rsvOf w ≠ 0 then .illegal .reservedBits
  else if opcOf w > 0x08 then .illegal .reservedOpcode
  else if bOf w = 1 ∧ opcOf w ≠ 0x03 ∧ opcOf w ≠ 0x05 then .illegal .strayB
  else .cmd (commandOf (opcOf w) (bOf w))

/-- The opcode map of R64. -/
def opcodeOf : Instr → BitVec 8
  | .nop => 0x00
  | .fdct => 0x01
  | .idct => 0x02
  | .embed _ => 0x03
  | .extract => 0x04
  | .embedBlock _ => 0x05
  | .extractBlock => 0x06
  | .cursor => 0x07
  | .capacity => 0x08

/-- The field `B` of a command's word: the operand of the two embed commands, 0 for every other (R61). -/
def bitFieldOf : Instr → BitVec 1
  | .embed b => b
  | .embedBlock b => b
  | .nop | .fdct | .idct | .extract | .extractBlock | .cursor | .capacity => 0

/-- The command word: `RSV = 0` in bits 31:9, `B` in bit 8, `OPC` in bits 7:0 (R61, R64). -/
def encode (i : Instr) : Word := (0#23 ++ bitFieldOf i) ++ opcodeOf i

/-- A word given by its low `nbits` bits, the bits above being 0. -/
def tableWord (nbits w : Nat) : Word := BitVec.ofNat 32 (w % 2 ^ nbits)

/-- What this decoder reads from the table word of `nbits` bits. A command is exactly one 32-bit word (R61, R67), so
a longer one is none. -/
def decodeTableWord (nbits w : Nat) : Option Instr :=
  if nbits ≤ 32 then
    match decode (tableWord nbits w) with
    | .cmd i => some i
    | .illegal _ => none
  else none

end Sys2Proof
end

