-- ==== Sys2Proof/Machine/State.lean ====
section
/-! DEFINITION. Machine/State.lean: the state of one engine (spec/10_state.md R20 to R46, spec/70_reset_and_hazards.md
R132) and of the host's side of the bus, the error codes, and the reasons a step can stop. -/

namespace Sys2Proof.Machine

/-- The error codes of `STATUS.ERR` (R110). Codes 6 to 15 are reserved and never produced (U6): none is a term. -/
inductive ErrCode
  | noError        -- 0
  | illegalCmd     -- 1
  | busy           -- 2
  | badConfig      -- 3
  | coefOvf        -- 4
  | cursorRange    -- 5
  deriving DecidableEq, Repr

/-- The state of one engine instance (R20) and of the host agent beside it. A field is named after the register or
field of the spec it holds; only the bits a register has are stored, every other bit being `RAZ/WI` (R26). `ID` is a
constant (R27) and `irq` a function of `CTRL` and `STATUS` (R45, R122): neither is stored. -/
structure State where
  /-- `PIX` (R23), by linear index; `none` is R133's "unwritten since reset". -/
  pix : Block (Option Sample)
  /-- `COEF` (R24), by linear index; `none` is R133's "unwritten since reset". -/
  coef : Block (Option Coeff)
  /-- `CTRL.IE` (R28). -/
  ie : Bool
  /-- `STATUS.BUSY` (R29). -/
  busy : Bool
  /-- `STATUS.DONE` (R30). -/
  done : Bool
  /-- `STATUS.CLIP` (R31). -/
  clip : Bool
  /-- `STATUS.ERR` (R32, R110). -/
  err : ErrCode
  /-- The hidden command latch (R45); `none` is "empty". -/
  latch : Option Word
  /-- `POS.A_U` (R35). -/
  posAU : BitVec 3
  /-- `POS.A_V` (R35). -/
  posAV : BitVec 3
  /-- `POS.B_U` (R35). -/
  posBU : BitVec 3
  /-- `POS.B_V` (R35). -/
  posBV : BitVec 3
  /-- `STEP` (R36). -/
  stepReg : Half
  /-- `MARGIN` (R37). -/
  marginReg : Half
  /-- `RESULT.BIT` (R38). -/
  resultBit : BitVec 1
  /-- `FRAME_W` (R39). -/
  frameW : Half
  /-- `FRAME_H` (R39). -/
  frameH : Half
  /-- `FRAME_CNT` (R40). -/
  frameCnt : Word
  /-- `HDR_W` (R41). -/
  hdrW : Half
  /-- `KIDX` (R42). -/
  kidx : Word
  /-- `CUR_FRAME` (R43). -/
  curFrame : Word
  /-- `CUR_BY` (R43). -/
  curBy : Half
  /-- `CUR_BX` (R43). -/
  curBx : Half
  /-- `CAP_BITS` (R44). -/
  capBits : Word
  /-- `CAP_BYTES` (R44). -/
  capBytes : Word
  /-- MODEL'S OWN, the host agent (R20): what the host does in its coming turns, in issue order (R53). -/
  script : List HostOp
  /-- MODEL'S OWN, the host agent: the words its reads have returned, newest first (R68 `RD <reg> -> <name>`). -/
  reads : List Word
  /-- MODEL'S OWN, the schedule (R53, U3; log entry 5): who acts in the coming steps. -/
  turns : List Turn
  /-- MODEL'S OWN (log entry 2): how many host writes, engine steps and resets have happened; picks the free value of
  an unspecified read. -/
  tick : Nat
  /-- MODEL'S OWN (log entry 1): how many resets have happened; picks the free values of the unwritten elements. -/
  resets : Nat
  /-- MODEL'S OWN (log entry 13): which engine of the platform this is. No step changes it; it picks the free values, so
  that two engines need not agree on them (R128). -/
  engineId : Nat
  deriving DecidableEq, Repr

/-- The engine after reset (R132) with no host transaction placed; engine 0 of its platform (log entry 13). -/
def State.reset : State where
  pix := Vector.replicate 64 none
  coef := Vector.replicate 64 none
  ie := false
  busy := false
  done := false
  clip := false
  err := .noError
  latch := none
  posAU := 4
  posAV := 1
  posBU := 3
  posBV := 2
  stepReg := 0x0020
  marginReg := 0x0080
  resultBit := 0
  frameW := 0
  frameH := 0
  frameCnt := 0
  hdrW := 0x0020
  kidx := 0
  curFrame := 0
  curBy := 0
  curBx := 0
  capBits := 0
  capBytes := 0
  script := []
  reads := []
  turns := []
  tick := 0
  resets := 0
  engineId := 0

/-- The ways a step stops with a fault. -/
inductive Fault
  /-- Raised by a host turn whose transaction is not 32 bits wide or not at a multiple of 4 (R52, R115, U8: "the model
  stops with a fault of the host's transaction"). SAFE: the engine's state is not changed and the model only stops
  where the platform goes on. -/
  | busError
  deriving DecidableEq, Repr

/-- The ways a step is refused. -/
inductive Refusal
  /-- Raised by `exec` for a command that has no meaning yet. SAFE. No arm raises it. -/
  | notModelled (mnemonic : String)
  /-- Raised by an engine turn in a state with `BUSY = 1` and an empty latch. SAFE: R29 and R45 rule such a state out
  and no step from a state that meets `ProtocolInv` reaches one. -/
  | busyWithEmptyLatch
  /-- Raised by an engine turn in a state whose latch holds an illegal word. SAFE: R112 latches legal words only and no
  step from a state that meets `ProtocolInv` reaches one. -/
  | latchedWordIllegal (why : Illegal)
  deriving DecidableEq, Repr

end Sys2Proof.Machine
end

