-- ==== Sys2Proof/Machine/Flags.lean ====
section
/-! DEFINITION. Machine/Flags.lean: the status bits (R29 to R33, R46, R110), how a command or a write sets them, and
the interrupt level (R122). The engine has no condition codes (R46). -/

namespace Sys2Proof.Machine

/-- The 4-bit code of an error (R110). -/
def ErrCode.code : ErrCode → BitVec 4
  | .noError => 0
  | .illegalCmd => 1
  | .busy => 2
  | .badConfig => 3
  | .coefOvf => 4
  | .cursorRange => 5

/-- The `STATUS` word as read (R33): `ERR` in bits 7:4, `ERRCLR` reads 0, `CLIP`, `DONE`, `BUSY`. -/
def statusWord (s : State) : Word :=
  ((((0#24 ++ s.err.code) ++ 0#1) ++ BitVec.ofBool s.clip) ++ BitVec.ofBool s.done) ++ BitVec.ofBool s.busy

/-- Sticky first error: `ERR` is written only while it is 0 (R32, R117). -/
def setErr (c : ErrCode) (s : State) : State :=
  { s with err := if s.err = .noError then c else s.err }

/-- A write of `w` to `STATUS` (R33): bit 1 clears `DONE`, bit 3 (`ERRCLR`) clears `ERR`, nothing else. -/
def writeStatus (w : Word) (s : State) : State :=
  { s with done := if w.getLsbD 1 then false else s.done
           err := if w.getLsbD 3 then .noError else s.err }

/-- The interrupt level `irq` (R122). -/
def irq (s : State) : Bool := s.ie && (s.done || s.err != .noError)

end Sys2Proof.Machine
end

