-- ==== Sys2Proof/Machine/Operands.lean ====
section
/-! DEFINITION. Machine/Operands.lean: the integer primitives of R8 and R9, the
indexing of R10 and every operand a command reads: the
buffers (R23, R24), the two positions and their coefficients, `S`, `M` and the payload bit (R63, R85), the frame
geometry (R96). -/

namespace Sys2Proof.Machine

/-- `zext_N` (R8). -/
def zext {n : Nat} (v : BitVec n) : Int := (v.toNat : Int)

/-- `sext_N` (R8). -/
def sext {n : Nat} (v : BitVec n) : Int := v.toInt

/-- `s16` (R8): the 16-bit two's-complement encoding of an integer. -/
def s16 (v : Int) : Coeff := BitVec.ofInt 16 v

/-- `v` lies in the range of a raw coefficient, `-32768..32767` (R24). -/
def inS16 (v : Int) : Bool := -32768 ≤ v && v ≤ 32767

/-- `rsr(a, s) = (a + 2^(s-1)) >> s` for `s >= 1` (R9); `>>` is the floor of the quotient by `2^s` (R8). -/
def rsr (a : Int) (s : Nat) : Int := (a + 2 ^ (s - 1)) / 2 ^ s

/-- `clamp(a, lo, hi)` (R9). -/
def clamp (a lo hi : Int) : Int := min hi (max lo a)

/-- `ceil_div(a, b)` for `a >= 0`, `b > 0` (R8). -/
def ceilDiv (a b : Int) : Int := (a + b - 1) / b

/-- The linear element index of row `i`, column `j`: `e = 8*i + j` (R10). -/
def elt (i j : Fin 8) : Fin 64 := ⟨8 * i.val + j.val, by omega⟩

/-- The row `e div 8` of a linear element index (R10). -/
def rowOf (e : Fin 64) : Fin 8 := ⟨e.val / 8, by omega⟩

/-- The column `e mod 8` of a linear element index (R10). -/
def colOf (e : Fin 64) : Fin 8 := ⟨e.val % 8, by omega⟩

/-- A whole buffer from its elements in row and column order (R10). -/
@[irreducible] def tabulate {α : Type} (f : Fin 8 → Fin 8 → α) : Block α :=
  Vector.ofFn fun e : Fin 64 => f (rowOf e) (colOf e)

/-- The sample with linear index `e`; an unwritten one is a free value (R133, U1). -/
def sampleAt (s : State) (e : Fin 64) : Sample :=
  (s.pix[e]).getD (Config.unwrittenPix s.engineId s.resets e.val)

/-- The raw coefficient with linear index `e`; an unwritten one is a free value (R133, U1). -/
def coeffAt (s : State) (e : Fin 64) : Coeff :=
  (s.coef[e]).getD (Config.unwrittenCoef s.engineId s.resets e.val)

/-- `zext_8(PIX[i][j])` (R23). -/
def samples (s : State) : Matrix := fun i j => zext (sampleAt s (elt i j))

/-- `sext_16(COEF[u][v])` (R24). -/
def coeffs (s : State) : Matrix := fun u v => sext (coeffAt s (elt u v))

/-- A 3-bit position field as an index. -/
def index3 (x : BitVec 3) : Fin 8 := ⟨x.toNat, x.isLt⟩

/-- `ua = POS.A_U` (R85). -/
def ua (s : State) : Fin 8 := index3 s.posAU

/-- `va = POS.A_V` (R85). -/
def va (s : State) : Fin 8 := index3 s.posAV

/-- `ub = POS.B_U` (R85). -/
def ub (s : State) : Fin 8 := index3 s.posBU

/-- `vb = POS.B_V` (R85). -/
def vb (s : State) : Fin 8 := index3 s.posBV

/-- `coeff_a` (R85). -/
def coeffA (s : State) : Int := coeffs s (ua s) (va s)

/-- `coeff_b` (R85). -/
def coeffB (s : State) : Int := coeffs s (ub s) (vb s)

/-- `S = zext_16(STEP)` (R85). -/
def stepS (s : State) : Int := zext s.stepReg

/-- `M = zext_16(MARGIN)` (R85). -/
def marginM (s : State) : Int := zext s.marginReg

/-- Positions A and B are equal (R114). -/
def samePosition (s : State) : Bool := s.posAU = s.posBU && s.posAV = s.posBV

/-- `BAD_CONFIG` of `EXTRACT` and `EXTRACT_BLOCK` (R114). -/
def badExtractConfig (s : State) : Bool := samePosition s

/-- `BAD_CONFIG` of `EMBED` and `EMBED_BLOCK` (R114). -/
def badEmbedConfig (s : State) : Bool := samePosition s || s.stepReg = 0 || s.marginReg = 0

/-- `bw = W div 8` (R96). -/
def blockCols (s : State) : Nat := s.frameW.toNat / 8

/-- `bh = H div 8` (R96). -/
def blockRows (s : State) : Nat := s.frameH.toNat / 8

/-- `bpf = bw * bh` (R96). -/
def blocksPerFrame (s : State) : Nat := blockCols s * blockRows s

/-- `total = bpf * F`, exact (R98, R100, R101). -/
def totalBlocks (s : State) : Nat := blocksPerFrame s * s.frameCnt.toNat

end Sys2Proof.Machine
end

