-- ==== Sys2Proof/Machine/Ops.lean ====
section
/-! DEFINITION. Machine/Ops.lean: the named operations over the state: accepting a command, ending one normally or with
an error (the engine's form of taking an exception, R108, R111), the register window (R47 to R55) and reset (R131). -/

namespace Sys2Proof.Machine

/-- A command word is accepted (R34, R112): latched, `BUSY <- 1`, `DONE <- 0`. -/
def acceptCommand (w : Word) (s : State) : State :=
  { s with latch := some w, busy := true, done := false }

/-- `complete()` (R111): `BUSY <- 0`, `DONE <- 1`, the latch emptied, after the command's own writes. -/
def complete (s : State) : State :=
  { s with busy := false, done := true, latch := none }

/-- `raise ERR(code)` at an engine step (R111): `ERR <- code` if it is 0, then `BUSY <- 0`, `DONE <- 1`, the latch
emptied, and none of the command's own writes. There is no trap: no vector, no saved state, no mode (R108). The
"return" is the host's `CLEARST`, a write to `STATUS` (R119, `writeStatus`). -/
def raiseErr (c : ErrCode) (s : State) : State := complete (setErr c s)

/-! ## The register window -/

/-- What an offset names (R47). Only the word index `off div 4` is looked at: an unaligned offset never gets here. -/
def locOf (off : Offset) : Loc :=
  match off.toNat / 4 with
  | 0 => .reg .id
  | 1 => .reg .ctrl
  | 2 => .reg .status
  | 3 => .reg .cmd
  | 4 => .reg .pos
  | 5 => .reg .step
  | 6 => .reg .margin
  | 7 => .reg .result
  | 8 => .reg .frameW
  | 9 => .reg .frameH
  | 10 => .reg .frameCnt
  | 11 => .reg .hdrW
  | 12 => .reg .kidx
  | 13 => .reg .curFrame
  | 14 => .reg .curBy
  | 15 => .reg .curBx
  | 16 => .reg .capBits
  | 17 => .reg .capBytes
  | k =>
    if 64 ≤ k ∧ k < 80 then .pix (Fin.ofNat 16 (k - 64))
    else if 128 ≤ k ∧ k < 160 then .coef (Fin.ofNat 32 (k - 128))
    else .reserved

/-- The identification constant (R27). -/
def idWord : Word := 0x44435438

/-- The `POS` word as read (R35). -/
def posWord (s : State) : Word :=
  ((((((0#17 ++ s.posBV) ++ 0#1) ++ s.posBU) ++ 0#1) ++ s.posAV) ++ 0#1) ++ s.posAU

/-- Sample `e = 4*w + b` of `PIX` window word `w` (R49). -/
def pixElt (w : Fin 16) (b : Fin 4) : Fin 64 := ⟨4 * w.val + b.val, by omega⟩

/-- Coefficient `e = 2*w + h` of `COEF` window word `w` (R50). -/
def coefElt (w : Fin 32) (h : Fin 2) : Fin 64 := ⟨2 * w.val + h.val, by omega⟩

/-- `PIX` window word `w` as read: the lower numbered sample in the less significant bits (R49, R51). -/
def pixWord (s : State) (w : Fin 16) : Word :=
  ((sampleAt s (pixElt w 3) ++ sampleAt s (pixElt w 2)) ++ sampleAt s (pixElt w 1)) ++ sampleAt s (pixElt w 0)

/-- `COEF` window word `w` as read (R50, R51). -/
def coefWord (s : State) (w : Fin 32) : Word := coeffAt s (coefElt w 1) ++ coeffAt s (coefElt w 0)

/-- The samples after a write of `v` to window word `w`: sample `4*w + b` becomes `v[8*b+7 : 8*b]` (R49). -/
@[irreducible] def pixWithWord (w : Fin 16) (v : Word) (ps : Block (Option Sample)) : Block (Option Sample) :=
  Vector.ofFn fun e : Fin 64 =>
    if e.val / 4 = w.val then some (v.extractLsb' (8 * (e.val % 4)) 8) else ps[e]

/-- The coefficients after a write of `x` to window word `w`: `x[15:0]` and `x[31:16]` become coefficients `2*w` and
`2*w + 1` (R50). -/
@[irreducible] def coefWithWord (w : Fin 32) (x : Word) (cs : Block (Option Coeff)) : Block (Option Coeff) :=
  Vector.ofFn fun e : Fin 64 =>
    if e.val / 2 = w.val then some (x.extractLsb' (16 * (e.val % 2)) 16) else cs[e]

/-- A write of `v` to `PIX` window word `w` (R49). -/
def putPixWord (w : Fin 16) (v : Word) (s : State) : State :=
  { s with pix := pixWithWord w v s.pix }

/-- A write of `x` to `COEF` window word `w` (R50). -/
def putCoefWord (w : Fin 32) (x : Word) (s : State) : State :=
  { s with coef := coefWithWord w x s.coef }

/-- The contents of a register as a 32-bit word, reserved bits 0 (R26 to R44). `CMD` reads 0 (R34). -/
def regWord (s : State) : Reg → Word
  | .id => idWord
  | .ctrl => (BitVec.ofBool s.ie).setWidth 32
  | .status => statusWord s
  | .cmd => 0
  | .pos => posWord s
  | .step => s.stepReg.setWidth 32
  | .margin => s.marginReg.setWidth 32
  | .result => s.resultBit.setWidth 32
  | .frameW => s.frameW.setWidth 32
  | .frameH => s.frameH.setWidth 32
  | .frameCnt => s.frameCnt
  | .hdrW => s.hdrW.setWidth 32
  | .kidx => s.kidx
  | .curFrame => s.curFrame
  | .curBy => s.curBy.setWidth 32
  | .curBx => s.curBx.setWidth 32
  | .capBits => s.capBits
  | .capBytes => s.capBytes

/-- The word that stands at a place of the window (R47 to R50). -/
def wordAt (s : State) : Loc → Word
  | .reg r => regWord s r
  | .pix w => pixWord s w
  | .coef w => coefWord s w
  | .reserved => 0

/-- A read of this place while `BUSY = 1` returns an unspecified value (R55, last row). -/
def unspecifiedWhileBusy : Loc → Bool
  | .pix _ | .coef _ => true
  | .reg .result | .reg .curFrame | .reg .curBy | .reg .curBx | .reg .capBits | .reg .capBytes => true
  | .reg .id | .reg .ctrl | .reg .status | .reg .cmd | .reg .pos | .reg .step | .reg .margin | .reg .frameW
  | .reg .frameH | .reg .frameCnt | .reg .hdrW | .reg .kidx | .reserved => false

/-- `BusRead(off)` (R11, R54, R55): the value the host gets. It changes nothing. -/
def busRead (s : State) (off : Offset) : Word :=
  if s.busy && unspecifiedWhileBusy (locOf off) then Config.busyRead s.engineId s.tick off.toNat
  else wordAt s (locOf off)

/-- A write of `w` to `CMD` (R34, R112): busy first, then legality, then acceptance. -/
def writeCmd (w : Word) (s : State) : State :=
  if s.busy then setErr .busy s
  else
    match decode w with
    | .illegal _ => { setErr .illegalCmd s with done := true }
    | .cmd _ => acceptCommand w s

/-- A write to a protected place (R113, R55): ignored with `ERR(BUSY)` while busy, stored otherwise. -/
def writeProtected (store : State → State) (s : State) : State :=
  if s.busy then setErr .busy s else store s

/-- `POS <- v` (R35): the four 3-bit fields, the other bits `WI`. -/
def storePos (v : Word) (s : State) : State :=
  { s with posAU := v.extractLsb' 0 3, posAV := v.extractLsb' 4 3
           posBU := v.extractLsb' 8 3, posBV := v.extractLsb' 12 3 }

/-- A write of `v` to a register (R26 to R44, R54, R55). -/
def writeReg (v : Word) (s : State) : Reg → State
  | .ctrl => { s with ie := v.getLsbD 0 }
  | .status => writeStatus v s
  | .cmd => writeCmd v s
  | .pos => writeProtected (storePos v) s
  | .step => writeProtected (fun t => { t with stepReg := v.setWidth 16 }) s
  | .margin => writeProtected (fun t => { t with marginReg := v.setWidth 16 }) s
  | .frameW => writeProtected (fun t => { t with frameW := v.setWidth 16 }) s
  | .frameH => writeProtected (fun t => { t with frameH := v.setWidth 16 }) s
  | .frameCnt => writeProtected (fun t => { t with frameCnt := v }) s
  | .hdrW => writeProtected (fun t => { t with hdrW := v.setWidth 16 }) s
  | .kidx => writeProtected (fun t => { t with kidx := v }) s
  | .id | .result | .curFrame | .curBy | .curBx | .capBits | .capBytes => s

/-- `BusWrite(off, v)` (R11, R47, R54, R55). -/
def busWrite (off : Offset) (v : Word) (s : State) : State :=
  match locOf off with
  | .reg r => writeReg v s r
  | .pix w => writeProtected (putPixWord w v) s
  | .coef w => writeProtected (putCoefWord w v) s
  | .reserved => s

/-! ## Reset -/

/-- The reset input is asserted (R131): the engine is in its reset state at once and a latched command is abandoned.
The host agent, its log and the rest of the schedule are outside the engine and stay (log entry 6), and the engine
stays the one it is (log entry 13). -/
def assertReset (s : State) : State :=
  { State.reset with
    script := s.script, reads := s.reads, turns := s.turns, tick := s.tick + 1, resets := s.resets + 1
    engineId := s.engineId }

end Sys2Proof.Machine
end

