-- ==== Sys2Proof/Machine/Control.lean ====
section
/-! DEFINITION. Machine/Control.lean: the control family, `NOP` (spec/43_control.md R105). -/

namespace Sys2Proof.Machine

/-- `NOP` (R105). -/
def execNop (s : State) : Host.Outcome State Fault Refusal := .next (complete s)

end Sys2Proof.Machine
end

