-- ==== Sys2Proof/Machine/CursorCapacity.lean ====
section
/-! DEFINITION. Machine/CursorCapacity.lean: the block cursor and the capacity calculator (spec/42_cursor_capacity.md
R96 to R102). -/

namespace Sys2Proof.Machine

/-- A block position: frame, block row, block column (R97). -/
structure BlockPos where
  frame : Nat
  by_ : Nat
  bx : Nat
  deriving DecidableEq, Repr

/-- `cursor(k)` for a frame of `bw` block columns and `bpf` blocks (R97). -/
def cursorOf (bw bpf k : Nat) : BlockPos :=
  { frame := k / bpf, by_ := k % bpf / bw, bx := k % bpf % bw }

/-- `CURSOR` (R98). -/
def execCursor (s : State) : Host.Outcome State Fault Refusal :=
  let p := cursorOf (blockCols s) (blocksPerFrame s) s.kidx.toNat
  .next (
    if blocksPerFrame s = 0 ∨ s.kidx.toNat ≥ totalBlocks s then raiseErr .cursorRange s
    else complete { s with
      curFrame := BitVec.ofNat 32 p.frame
      curBy := BitVec.ofNat 16 p.by_
      curBx := BitVec.ofNat 16 p.bx })

/-- The payload capacity in bits, exact: `total - h`, or 0 when `total <= h` (R101). -/
def capacityBits (total h : Nat) : Nat := if total > h then total - h else 0

/-- `min(n, 2^32 - 1)` (R101). -/
def saturate32 (n : Nat) : Nat := min n (2 ^ 32 - 1)

/-- `CAPACITY` (R102). -/
def execCapacity (s : State) : Host.Outcome State Fault Refusal :=
  let bits := capacityBits (totalBlocks s) s.hdrW.toNat
  .next (complete { s with
    capBits := BitVec.ofNat 32 (saturate32 bits)
    capBytes := BitVec.ofNat 32 (saturate32 (bits / 8)) })

end Sys2Proof.Machine
end

