-- ==== Sys2Proof/Machine/Transform.lean ====
section
/-! DEFINITION. Machine/Transform.lean: the constant table, the forward and inverse transforms and their commands
`FDCT` and `IDCT` (spec/40_transform.md R71 to R81). -/

namespace Sys2Proof.Machine

/-- The rows of the constant table (R71): row `k` is the frequency, column `n` the sample index. -/
def tableRows : List (List Int) :=
  [ [2896,  2896,  2896,  2896,  2896,  2896,  2896,  2896],
    [4017,  3406,  2276,   799,  -799, -2276, -3406, -4017],
    [3784,  1567, -1567, -3784, -3784, -1567,  1567,  3784],
    [3406,  -799, -4017, -2276,  2276,  4017,   799, -3406],
    [2896, -2896, -2896,  2896,  2896, -2896, -2896,  2896],
    [2276, -4017,   799,  3406, -3406,  -799,  4017, -2276],
    [1567, -3784,  3784, -1567, -1567,  3784, -3784,  1567],
    [ 799, -2276,  3406, -4017,  4017, -3406,  2276,  -799] ]

/-- `T[k][n]` (R71). -/
def T (k n : Fin 8) : Int := (tableRows.getD k.val []).getD n.val 0

/-- `sum_{n=0..7}` of R73 to R77. -/
def sum8 (f : Fin 8 → Int) : Int := f 0 + f 1 + f 2 + f 3 + f 4 + f 5 + f 6 + f 7

/-- FDCT stage 1, rows first: `R[i][v]` (R73). -/
def fdctRows (x : Matrix) : Matrix := fun i v => rsr (sum8 fun n => x i n * T v n) 10

/-- FDCT stage 2, columns: `Y[u][v]` (R74). -/
def fdctCols (r : Matrix) : Matrix := fun u v => rsr (sum8 fun i => T u i * r i v) 13

/-- `fdct` as a function of the samples (R73, R74, R91). -/
def fdct (x : Matrix) : Matrix := fdctCols (fdctRows x)

/-- IDCT stage 1, columns first: `Z[i][v]` (R76). -/
def idctCols (y : Matrix) : Matrix := fun i v => rsr (sum8 fun u => T u i * y u v) 13

/-- IDCT stage 2, rows: `P[i][j]` (R77). -/
def idctRows (z : Matrix) : Matrix := fun i j => rsr (sum8 fun v => z i v * T v j) 16

/-- The reconstructed samples before clipping, `P` (R76, R77). -/
def idct (y : Matrix) : Matrix := idctRows (idctCols y)

/-- `P[i][j] < 0 or P[i][j] > 255` (R79). -/
def outOfRange (p : Int) : Bool := p < 0 || p > 255

/-- Every pair of indices of an 8×8 block. -/
def allIndices : List (Fin 8 × Fin 8) :=
  (List.finRange 8).flatMap fun i => (List.finRange 8).map fun j => (i, j)

/-- The block is clipped: some `P[i][j]` is out of range (R79). -/
@[irreducible] def isClipped (p : Matrix) : Bool := allIndices.any fun ij => outOfRange (p ij.1 ij.2)

/-- `PIX` from the reconstructed samples: `clamp(P[i][j], 0, 255)` (R79). -/
def clippedPix (p : Matrix) : Block (Option Sample) :=
  tabulate fun i j => some (BitVec.ofInt 8 (clamp (p i j) 0 255))

/-- `COEF` from integer coefficients: `s16(Y[u][v])` (R80). -/
def storedCoef (y : Matrix) : Block (Option Coeff) :=
  tabulate fun u v => some (s16 (y u v))

/-- `FDCT` (R80). -/
def execFdct (s : State) : Host.Outcome State Fault Refusal :=
  .next (complete { s with coef := storedCoef (fdct (samples s)) })

/-- `IDCT` (R81). -/
def execIdct (s : State) : Host.Outcome State Fault Refusal :=
  .next (complete { s with
    pix := clippedPix (idct (coeffs s))
    clip := isClipped (idct (coeffs s)) })

end Sys2Proof.Machine
end

