-- ==== Sys2Proof/Machine/EmbedExtract.lean ====
section
/-! DEFINITION. Machine/EmbedExtract.lean: the coefficient-pair modifier and extractor and their commands `EMBED`,
`EXTRACT`, `EMBED_BLOCK` and `EXTRACT_BLOCK` (spec/41_embed_extract.md R85 to R92). -/

namespace Sys2Proof.Machine

/-- The "swapping" of R87: the pair `(p, q)` with `p >= q`. -/
def orderPair (p q : Int) : Int × Int := if p - q < 0 then (q, p) else (p, q)

/-- The "nudging" of R87 on a pair with `d = p - q >= 0`: apart by the least whole number `k` of steps that makes the
gap at least `M`. -/
def nudgePair (p q S M : Int) : Int × Int :=
  let d := p - q
  if d < M then
    let k := ceilDiv (M - d) (2 * S)
    (p + k * S, q - k * S)
  else (p, q)

/-- The pair to be stored, larger value first (R87), before the range test. -/
def spreadPair (p q S M : Int) : Int × Int :=
  let o := orderPair p q
  nudgePair o.1 o.2 S M

/-- `embed_pair(a, b, bit, S, M)` (R87); `none` is `Overflow`. -/
def embedPair (a b : Int) (bit : BitVec 1) (S M : Int) : Option (Int × Int) :=
  let r := if bit = 1 then spreadPair a b S M else spreadPair b a S M
  if inS16 r.1 && inS16 r.2 then
    some (if bit = 1 then (r.1, r.2) else (r.2, r.1))
  else none

/-- `extract_pair(a, b)` (R88): signed comparison, equal gives 0. -/
def extractPair (a b : Int) : BitVec 1 := if a > b then 1 else 0

/-- A block of integers with positions A and B replaced by `a'` and `b'` (R91 `Y[ua][va] <- a'; Y[ub][vb] <- b'`). -/
def replacePair (s : State) (y : Matrix) (a' b' : Int) : Matrix := fun u v =>
  if u = ub s ∧ v = vb s then b' else if u = ua s ∧ v = va s then a' else y u v

/-- The coefficients with elements `ea` and `eb` written. -/
@[irreducible] def coefWithPair (ea eb : Fin 64) (a' b' : Int) (cs : Block (Option Coeff)) : Block (Option Coeff) :=
  (cs.set ea (some (s16 a'))).set eb (some (s16 b'))

/-- `COEF[ua][va] <- s16(a'); COEF[ub][vb] <- s16(b')` (R89). -/
def storePair (s : State) (a' b' : Int) : State :=
  { s with coef := coefWithPair (elt (ua s) (va s)) (elt (ub s) (vb s)) a' b' s.coef }

/-- `EMBED b` (R89). -/
def execEmbed (b : BitVec 1) (s : State) : Host.Outcome State Fault Refusal :=
  .next (
    if badEmbedConfig s then raiseErr .badConfig s
    else
      match embedPair (coeffA s) (coeffB s) b (stepS s) (marginM s) with
      | none => raiseErr .coefOvf s
      | some r => complete (storePair s r.1 r.2))

/-- `EXTRACT` (R90). -/
def execExtract (s : State) : Host.Outcome State Fault Refusal :=
  .next (
    if badExtractConfig s then raiseErr .badConfig s
    else complete { s with resultBit := extractPair (coeffA s) (coeffB s) })

/-- The writes of a successful `EMBED_BLOCK` (R91): `COEF <- Y; PIX <- X; STATUS.CLIP <- clipped`. -/
def storeEmbeddedBlock (s : State) (y : Matrix) : State :=
  { s with
    coef := storedCoef y
    pix := clippedPix (idct y)
    clip := isClipped (idct y) }

/-- `EMBED_BLOCK b` (R91). -/
def execEmbedBlock (b : BitVec 1) (s : State) : Host.Outcome State Fault Refusal :=
  let y := fdct (samples s)
  .next (
    if badEmbedConfig s then raiseErr .badConfig s
    else
      match embedPair (y (ua s) (va s)) (y (ub s) (vb s)) b (stepS s) (marginM s) with
      | none => raiseErr .coefOvf s
      | some r => complete (storeEmbeddedBlock s (replacePair s y r.1 r.2)))

/-- `EXTRACT_BLOCK` (R92). -/
def execExtractBlock (s : State) : Host.Outcome State Fault Refusal :=
  let y := fdct (samples s)
  .next (
    if badExtractConfig s then raiseErr .badConfig s
    else complete { s with
      coef := storedCoef y
      resultBit := extractPair (y (ua s) (va s)) (y (ub s) (vb s)) })

end Sys2Proof.Machine
end

