-- ==== Sys2Proof/Machine/Dispatch.lean ====
section
/-! DEFINITION. Machine/Dispatch.lean: one arm per command. -/

namespace Sys2Proof.Machine

def exec (i : Instr) (s : State) : Host.Outcome State Fault Refusal :=
  match i with
  | .nop => Sys2Proof.Machine.execNop s
  | .fdct => Sys2Proof.Machine.execFdct s
  | .idct => Sys2Proof.Machine.execIdct s
  | .embed b => Sys2Proof.Machine.execEmbed b s
  | .extract => Sys2Proof.Machine.execExtract s
  | .embedBlock b => Sys2Proof.Machine.execEmbedBlock b s
  | .extractBlock => Sys2Proof.Machine.execExtractBlock s
  | .cursor => Sys2Proof.Machine.execCursor s
  | .capacity => Sys2Proof.Machine.execCapacity s

end Sys2Proof.Machine
end

