-- ==== Sys2Proof/Machine/Turns.lean ====
section
/-! DEFINITION. Machine/Turns.lean: what each agent does in its turn (R20, R53): one host transaction, one engine step,
or the reset input; and whose turn it is. -/

namespace Sys2Proof.Machine

/-- Whose turn is next (R53). When the schedule is used up, an accepted command is executed before the host goes on,
so an engine step is always taken in the end (weak fairness). -/
def nextTurn (s : State) : Turn :=
  match s.turns with
  | t :: _ => t
  | [] => if s.busy then .engine else .host

/-- The schedule after the next turn has been taken. -/
def dropTurn (s : State) : State := { s with turns := s.turns.tail }

/-- R52: a transaction of another width or at another offset is a bus error. -/
def busErrorAt (bits : Nat) (off : Offset) : Bool := bits != 32 || off.toNat % 4 != 0

/-- The host's turn: its next transaction, or nothing if it issues none. A `WAIT` whose read of `STATUS` shows
`BUSY = 1` stands again (R69). -/
def hostTurn (s : State) : Host.Outcome State Fault Refusal :=
  match s.script with
  | [] => .next s
  | .rd bits off :: rest =>
    if busErrorAt bits off then .fault .busError
    else .next { s with script := rest, reads := busRead s off :: s.reads }
  | .wr bits off v :: rest =>
    if busErrorAt bits off then .fault .busError
    else .next { busWrite off v s with script := rest, tick := s.tick + 1 }
  | .wait :: rest =>
    .next { s with
      script := if (statusWord s).getLsbD 0 then s.script else rest
      reads := statusWord s :: s.reads }

/-- Count an engine step. -/
def countStep : Host.Outcome State Fault Refusal → Host.Outcome State Fault Refusal
  | .next t => .next { t with tick := t.tick + 1 }
  | .fault f => .fault f
  | .refused r => .refused r

/-- The engine's turn (R29, R53): with a command accepted, one engine step executes the word in the latch; an idle
engine does nothing (R130, R134). -/
def engineTurn (s : State) : Host.Outcome State Fault Refusal :=
  if s.busy then
    match s.latch with
    | none => .refused .busyWithEmptyLatch
    | some w =>
      match decode w with
      | .illegal why => .refused (.latchedWordIllegal why)
      | .cmd i => countStep (exec i s)
  else .next s

/-- One turn of an agent. -/
def takeTurn (t : Turn) (s : State) : Host.Outcome State Fault Refusal :=
  match t with
  | .host => hostTurn s
  | .engine => engineTurn s
  | .reset => .next (assertReset s)

/-- The state in which the engine's next step runs the command word `w`: accepted (R112), and the engine's turn. -/
def latched (w : Word) (s : State) : State :=
  acceptCommand w { s with turns := .engine :: s.turns }

/-- The schedule under which an accepted command's engine step falls after `n` further host transactions
(R53 `LAT(op)`). -/
def afterLatency (n : Nat) : List Turn := List.replicate n .host ++ [.engine]

end Sys2Proof.Machine
end

