-- ==== Sys2Proof/Machine/Step.lean ====
section
/-! DEFINITION. Machine/Step.lean: one step of the interleaving of R53, and where the next command comes from. -/

namespace Sys2Proof.Machine

/-- One step: the agent whose turn it is acts. -/
def step (s : State) : Host.Outcome State Fault Refusal := takeTurn (nextTurn s) (dropTurn s)

/-- `s` with the table word accepted as the command the engine's next step executes, which is the next turn. -/
def State.withFetchWord (s : State) (nbits w : Nat) : State := latched (tableWord nbits w) s

end Sys2Proof.Machine
end

