-- ==== Sys2Proof/Machine/HostAsm.lean ====
section
/-! DEFINITION. Machine/HostAsm.lean: the host assembly of R68 and the expansions of R69, as host transactions. -/

namespace Sys2Proof.Machine

/-- `offset(reg)` (R47). -/
def offsetOf : Reg → Offset
  | .id => 0x000
  | .ctrl => 0x004
  | .status => 0x008
  | .cmd => 0x00C
  | .pos => 0x010
  | .step => 0x014
  | .margin => 0x018
  | .result => 0x01C
  | .frameW => 0x020
  | .frameH => 0x024
  | .frameCnt => 0x028
  | .hdrW => 0x02C
  | .kidx => 0x030
  | .curFrame => 0x034
  | .curBy => 0x038
  | .curBx => 0x03C
  | .capBits => 0x040
  | .capBytes => 0x044

/-- The offset of `<reg>`, `PIX+<k>` (`0x100 + 4k`) or `COEF+<k>` (`0x200 + 4k`) (R68). -/
def placeOffset : Place → Offset
  | .reg r => offsetOf r
  | .pix k => BitVec.ofNat 12 (0x100 + 4 * k)
  | .coef k => BitVec.ofNat 12 (0x200 + 4 * k)

/-- `WR CMD, <word>`: one command (R69). -/
def issue (i : Instr) : List HostOp := [.wr 32 (offsetOf .cmd) (encode i)]

/-- The word `{p[4k+3], p[4k+2], p[4k+1], p[4k]}` of `LOADPIX` (R69). -/
def packSamples (p : List Sample) (k : Nat) : Word :=
  ((p.getD (4 * k + 3) 0 ++ p.getD (4 * k + 2) 0) ++ p.getD (4 * k + 1) 0) ++ p.getD (4 * k) 0

/-- The transactions of one well-formed line (R68, R69). -/
def expand : Asm → List HostOp
  | .wr p imm => [.wr 32 (placeOffset p) imm]
  | .rd p => [.rd 32 (placeOffset p)]
  | .nop => issue .nop
  | .fdct => issue .fdct
  | .idct => issue .idct
  | .embed b => issue (.embed (BitVec.ofNat 1 b))
  | .extract => issue .extract
  | .embedBlock b => issue (.embedBlock (BitVec.ofNat 1 b))
  | .extractBlock => issue .extractBlock
  | .cursor => issue .cursor
  | .capacity => issue .capacity
  | .wait => [.wait]
  | .loadPix p => (List.range 16).map fun k => .wr 32 (placeOffset (.pix k)) (packSamples p k)
  | .clearSt => [.wr 32 (offsetOf .status) 0x0000000A]

/-- A host program: its lines in issue order. -/
def assemble (p : List Asm) : List HostOp := p.flatMap expand

end Sys2Proof.Machine
end

