-- ==== Sys2Proof/Machine/Platform.lean ====
section
/-! DEFINITION. Machine/Platform.lean: a platform with any number of engines (R18, R128), each with its own window
address `BASE` (R6, R47), its own state and its own `irq` line. The engines share no state and are stepped one at a
time; which one acts next is the platform's choice. -/

namespace Sys2Proof.Machine

/-- One engine on a platform: the OPEN parameter `BASE` of its window, and its state. -/
structure Slot where
  base : Nat
  engine : State
  deriving DecidableEq, Repr

/-- The offset of a platform address in the 4 KiB window at `base`, if it lies in it (R47, R107). -/
def windowOffset (base addr : Nat) : Option Offset :=
  if base ≤ addr ∧ addr < base + 0x1000 then some (BitVec.ofNat 12 (addr - base)) else none

/-- The windows of two engines do not overlap (92_eei_decisions.md, constraint on `BASE`). -/
def windowsApart (a b : Nat) : Bool := a + 0x1000 ≤ b || b + 0x1000 ≤ a

/-- The engine a platform address names, if any: the first whose window holds it. -/
def engineOf (p : List Slot) (addr : Nat) : Option Nat :=
  p.findIdx? fun x => (windowOffset x.base addr).isSome

/-- Engine `k` of a platform after reset (R128, R131): the reset state, with the free values of that engine (log
entry 13). -/
def resetEngine (k : Nat) : State := { State.reset with engineId := k }

/-- The platform after reset: one engine per window address, each in its reset state (R128 "Each instance starts from
its reset state"). -/
def resetPlatform (bases : List Nat) : List Slot :=
  bases.zipIdx.map fun x => { base := x.1, engine := resetEngine x.2 }

/-- Step engine `k` of the platform; a `k` that names none leaves the platform as it is. -/
def stepEngine (p : List Slot) (k : Nat) : Host.Outcome (List Slot) Fault Refusal :=
  match p[k]? with
  | none => .next p
  | some x =>
    match step x.engine with
    | .next t => .next (p.set k { x with engine := t })
    | .fault f => .fault f
    | .refused r => .refused r

/-- The `irq` lines of the platform, in engine order (R122, OPEN parameter `IRQ_LINE`). -/
def irqLines (p : List Slot) : List Bool := p.map fun x => irq x.engine

end Sys2Proof.Machine
end

