-- ==== Sys2Proof/Safety.lean ====
section
/-! DEFINITION. Safety.lean: the invariant of the engine, and what a run that depends on no open value is. -/

namespace Sys2Proof.Machine

/-- The latch holds a legal command word or nothing (R34, R45, R112). -/
def latchLegal (s : State) : Bool :=
  match s.latch with
  | none => true
  | some w =>
    match decode w with
    | .cmd _ => true
    | .illegal _ => false

/-- The invariant of the busy protocol: the latch is empty exactly when `BUSY = 0` (R29, R45), it holds legal words
only (R112), and `DONE = 0` while a command is in flight (R30). -/
def ProtocolInv (s : State) : Prop :=
  s.busy = s.latch.isSome ∧ latchLegal s = true ∧ (s.busy = true → s.done = false)

/-- The two states agree on every input of every command (R55): the buffers, the configuration, and the free values
behind unwritten elements. -/
def SameInputs (s t : State) : Prop :=
  t.pix = s.pix ∧ t.coef = s.coef ∧ t.posAU = s.posAU ∧ t.posAV = s.posAV ∧ t.posBU = s.posBU ∧ t.posBV = s.posBV ∧
  t.stepReg = s.stepReg ∧ t.marginReg = s.marginReg ∧ t.frameW = s.frameW ∧ t.frameH = s.frameH ∧
  t.frameCnt = s.frameCnt ∧ t.hdrW = s.hdrW ∧ t.kidx = s.kidx ∧ t.resets = s.resets ∧
  t.engineId = s.engineId

/-- The places of the window whose word the engine step of a command may change (R80, R81, R89 to R92, R98, R102,
R105): `STATUS` always, and what the command's rule says it writes. -/
def writesPlace (i : Instr) (s : State) (l : Loc) : Bool :=
  match l with
  | .reg .status => true
  | .pix _ =>
    match i with
    | .idct | .embedBlock _ => true
    | .nop | .fdct | .embed _ | .extract | .extractBlock | .cursor | .capacity => false
  | .coef w =>
    match i with
    | .fdct | .embedBlock _ | .extractBlock => true
    | .embed _ => (elt (ua s) (va s)).val / 2 = w.val || (elt (ub s) (vb s)).val / 2 = w.val
    | .nop | .idct | .extract | .cursor | .capacity => false
  | .reg .result => i = .extract || i = .extractBlock
  | .reg .curFrame | .reg .curBy | .reg .curBx => i = .cursor
  | .reg .capBits | .reg .capBytes => i = .capacity
  | .reg .id | .reg .ctrl | .reg .cmd | .reg .pos | .reg .step | .reg .margin | .reg .frameW | .reg .frameH
  | .reg .frameCnt | .reg .hdrW | .reg .kidx | .reserved => false

/-- Every element of `PIX` has been written since reset (R133). -/
def pixWritten (s : State) : Bool := s.pix.toList.all Option.isSome

/-- Every element of `COEF` has been written since reset (R133). -/
def coefWritten (s : State) : Bool := s.coef.toList.all Option.isSome

/-- The two coefficients `EMBED` and `EXTRACT` read have been written since reset. -/
def pairWritten (s : State) : Bool :=
  (s.coef[elt (ua s) (va s)]).isSome && (s.coef[elt (ub s) (vb s)]).isSome

/-- The buffer elements the command consumes have been written since reset (R133, R135 step 5, U1). -/
def inputsWritten : Instr → State → Bool
  | .fdct, s | .embedBlock _, s | .extractBlock, s => pixWritten s
  | .idct, s => coefWritten s
  | .embed _, s | .extract, s => pairWritten s
  | .nop, _ | .cursor, _ | .capacity, _ => true

/-- The places of the window a read of which returns an open value now: an unwritten element (U1), or a place that is
unspecified while busy (U4). -/
def openRead (s : State) (off : Offset) : Bool :=
  match locOf off with
  | .pix w => s.busy || [0, 1, 2, 3].any fun b => (s.pix[pixElt w b]).isNone
  | .coef w => s.busy || [0, 1].any fun h => (s.coef[coefElt w h]).isNone
  | .reg r => s.busy && unspecifiedWhileBusy (.reg r)
  | .reserved => false

/-- The next step stops on no bus error and consumes no value the spec leaves open (U1, U4, U8). -/
def safeStep (s : State) : Bool :=
  match nextTurn s with
  | .reset => true
  | .engine =>
    match s.busy, s.latch with
    | true, some w =>
      match decode w with
      | .cmd i => inputsWritten i s
      | .illegal _ => false
    | true, none => false
    | false, _ => true
  | .host =>
    match s.script with
    | [] => true
    | .rd bits off :: _ => !busErrorAt bits off && !openRead s off
    | .wr bits off _ :: _ => !busErrorAt bits off
    | .wait :: _ => true

end Sys2Proof.Machine
end

