-- ==== Sys2Proof/Certificates/Slice0/Obligations.lean ====
section
/-! DEFINITION. Certificates/Slice0/Obligations.lean: the statements for the provers. Each says which rule of spec/ it
formalises. A statement holds for every value of the free values (log entries 1 and 2) and for every schedule
(log entry 5). -/

open Sys2Proof Sys2Proof.Machine

/-! ## Encoding -/

/-- Words written out from R64 decode to the commands they stand for, and three reserved words to none. -/
def Obligations.SpecWordsDecodeToTheirCommands : Prop :=
  decode 0x00000000 = .cmd .nop ∧ decode 0x00000001 = .cmd .fdct ∧ decode 0x00000002 = .cmd .idct ∧
  decode 0x00000103 = .cmd (.embed 1) ∧ decode 0x00000005 = .cmd (.embedBlock 0) ∧
  decode 0x00000007 = .cmd .cursor ∧ decode 0x00000008 = .cmd .capacity ∧
  decode 0x00000009 = .illegal .reservedOpcode ∧ decode 0x00000101 = .illegal .strayB ∧
  decode 0x00000203 = .illegal .reservedBits

/-- R64: the legal command words are exactly the eleven of the opcode map, each the command named there. -/
def Obligations.LegalWordsAreExactlyTheEleven : Prop :=
  ∀ (w : Word) (i : Instr), decode w = .cmd i ↔ (w, i) ∈
    ([ (0x00000000, .nop), (0x00000001, .fdct), (0x00000002, .idct),
       (0x00000003, .embed 0), (0x00000103, .embed 1), (0x00000004, .extract),
       (0x00000005, .embedBlock 0), (0x00000105, .embedBlock 1), (0x00000006, .extractBlock),
       (0x00000007, .cursor), (0x00000008, .capacity) ] : List (Word × Instr))

/-- Decoding and encoding are inverse to each other on all commands and all words (R61 to R66). -/
def Obligations.DecodeExactlyInvertsEncode : Prop :=
  ∀ (w : Word) (i : Instr), decode w = .cmd i ↔ w = encode i

/-- R65: a word is legal exactly when `w[31:9] = 0`, `w[7:0] <= 8` and `B = 1` only with opcode 3 or 5; an illegal one
written to `CMD` while idle is refused with `ILLEGAL_CMD` and `DONE`, with no other effect. -/
def Obligations.LegalityTestAndRefusal : Prop :=
  (∀ w : Word, (∃ i, decode w = .cmd i) ↔
    (w.extractLsb' 9 23 = 0 ∧ (w.extractLsb' 0 8).toNat ≤ 0x08 ∧
      (w.getLsbD 8 = false ∨ w.extractLsb' 0 8 = 0x03 ∨ w.extractLsb' 0 8 = 0x05))) ∧
  (∀ (w : Word) (s : State), s.busy = false → (∀ i, decode w ≠ .cmd i) →
    busWrite 0x00C w s =
      { s with err := if s.err = .noError then .illegalCmd else s.err, done := true })

/-! ## The machine's step -/

/-- When the next turn is the engine's and the latched word decodes to `i`, the step is the engine step of `i`, with
the turn taken and the engine step counted (R29, R53; the counter is log entry 2). The turn of an idle engine, and that
of a host with no transaction left, leave everything but the schedule as it was (R130, R134; log entries 4 and 5). -/
def Obligations.StepRunsTheLatchedCommand : Prop :=
  (∀ (s : State) (w : Word) (i : Instr),
    nextTurn s = .engine → s.busy = true → s.latch = some w → decode w = .cmd i →
    ∃ t, exec i { s with turns := s.turns.tail } = .next t ∧ step s = .next { t with tick := t.tick + 1 }) ∧
  (∀ s : State, nextTurn s = .engine → s.busy = false → step s = .next { s with turns := s.turns.tail }) ∧
  (∀ s : State, nextTurn s = .host → s.script = [] → step s = .next { s with turns := s.turns.tail })

/-- The reset state meets the invariant. -/
def Obligations.ResetStateMeetsInvariant : Prop := ProtocolInv State.reset

/-- Every step keeps the invariant of the busy protocol (R29, R30, R45, R112): the latch is empty exactly when
`BUSY = 0`, it holds legal words only, and `DONE = 0` while a command is in flight. -/
def Obligations.EveryStepKeepsInvariant : Prop :=
  ∀ s t : State, ProtocolInv s → step s = .next t → ProtocolInv t

/-- From a state that meets the invariant a step is never refused, and it faults exactly when the host's next
transaction is not one aligned 32-bit word (R52, R115). -/
def Obligations.StepStopsExactlyOnBusErrors : Prop :=
  ∀ s : State, ProtocolInv s →
    (∀ r, step s ≠ .refused r) ∧
    (step s = .fault .busError ↔
      nextTurn s = .host ∧ ∃ op rest, s.script = op :: rest ∧ op.wellFormed = false)

/-- R53: an accepted command is executed after finitely many steps, under every schedule without a reset and every
host program of well-formed transactions, on exactly the inputs present when it was accepted (R55). When the schedule
is used up first, that the engine acts before the host is the model's choice (log entry 5, DESIGN CHOICE). -/
def Obligations.AcceptedCommandIsExecutedOnItsInputs : Prop :=
  ∀ (s : State) (w : Word) (i : Instr),
    s.busy = true → s.latch = some w → decode w = .cmd i →
    (∀ op ∈ s.script, op.wellFormed = true) → .reset ∉ s.turns →
    ∃ k u t, k ≤ s.turns.length ∧ Host.Core.run Sys2Proof.core k s = .next u ∧ u.latch = some w ∧ SameInputs s u ∧
      exec i { u with turns := u.turns.tail } = .next t ∧ step u = .next { t with tick := t.tick + 1 } ∧
      t.busy = false ∧ t.done = true

/-- A command issued by the host while idle and scheduled next is the one executed: after the host's `CMD` write and
the engine's turn the state is that of the command's engine step on the accepted state (R34, R53, R69). -/
def Obligations.IssuedCommandIsTheOneExecuted : Prop :=
  ∀ (i : Instr) (s : State) (rest : List HostOp) (ts : List Turn),
    s.busy = false → s.script = issue i ++ rest → s.turns = .host :: .engine :: ts →
    ∃ t, exec i { s with script := rest, turns := ts, tick := s.tick + 1,
                         latch := some (encode i), busy := true, done := false } = .next t ∧
      Host.Core.run Sys2Proof.core 2 s = .next { t with tick := t.tick + 1 }

/-! ## Reset -/

/-- R132: the value of every register after reset, the latch empty, the buffers unwritten, `irq = 0`. -/
def Obligations.ResetValues : Prop :=
  busRead State.reset 0x000 = 0x44435438 ∧ busRead State.reset 0x004 = 0 ∧ busRead State.reset 0x008 = 0 ∧
  busRead State.reset 0x00C = 0 ∧ State.reset.latch = none ∧ busRead State.reset 0x010 = 0x00002314 ∧
  busRead State.reset 0x014 = 0x00000020 ∧ busRead State.reset 0x018 = 0x00000080 ∧
  busRead State.reset 0x01C = 0 ∧ busRead State.reset 0x020 = 0 ∧ busRead State.reset 0x024 = 0 ∧
  busRead State.reset 0x028 = 0 ∧ busRead State.reset 0x02C = 0x00000020 ∧ busRead State.reset 0x030 = 0 ∧
  busRead State.reset 0x034 = 0 ∧ busRead State.reset 0x038 = 0 ∧ busRead State.reset 0x03C = 0 ∧
  busRead State.reset 0x040 = 0 ∧ busRead State.reset 0x044 = 0 ∧
  (∀ e : Fin 64, State.reset.pix[e] = none ∧ State.reset.coef[e] = none) ∧ irq State.reset = false

/-- The reset input puts the engine in its reset state at once, whatever it was doing, and abandons an accepted command
(R131). What the host agent holds stays, and the engine stays the one it is: log entries 6 and 13, the model's choice. -/
def Obligations.ResetInputAbandonsTheCommand : Prop :=
  ∀ (s : State) (ts : List Turn), s.turns = .reset :: ts →
    ∃ t, step s = .next t ∧ t.busy = false ∧ t.latch = none ∧ irq t = false ∧
      t = { State.reset with
              script := s.script, reads := s.reads, turns := ts, tick := s.tick + 1, resets := s.resets + 1
              engineId := s.engineId }

/-! ## The register window -/

/-- R52, R115: a host transaction that is not 32 bits wide, or not at a multiple of 4, is a bus error and nothing else
happens; every other one is served: a read returns `BusRead` of its place and changes nothing else, a write is
`BusWrite` (R11). A `WAIT` reads `STATUS` and stands again while `BUSY = 1` (R69). -/
def Obligations.HostTransactionIsServedOrABusError : Prop :=
  ∀ (s : State) (bits : Nat) (off : Offset) (v : Word) (rest : List HostOp), nextTurn s = .host →
    (s.script = .rd bits off :: rest ∨ s.script = .wr bits off v :: rest → bits ≠ 32 ∨ off.toNat % 4 ≠ 0 →
      step s = .fault .busError) ∧
    (s.script = .rd bits off :: rest → bits = 32 → off.toNat % 4 = 0 →
      step s = .next { s with turns := s.turns.tail, script := rest, reads := busRead s off :: s.reads }) ∧
    (s.script = .wr bits off v :: rest → bits = 32 → off.toNat % 4 = 0 →
      step s = .next { busWrite off v { s with turns := s.turns.tail } with script := rest, tick := s.tick + 1 }) ∧
    (s.script = .wait :: rest →
      step s = .next { s with turns := s.turns.tail, script := (if s.busy then s.script else rest)
                              reads := busRead s 0x008 :: s.reads })

/-- A read has no side effect on the engine, and repeating it at once returns the same value (R54). That this holds of
the unspecified reads of R55 too, which U4 read alone leaves any value each time, is the model's choice: log entry 2,
DEDUCED from R54. -/
def Obligations.ReadsHaveNoSideEffectAndRepeat : Prop :=
  ∀ (s : State) (off : Offset) (rest : List HostOp) (ts : List Turn),
    off.toNat % 4 = 0 → s.script = .rd 32 off :: .rd 32 off :: rest → s.turns = .host :: .host :: ts →
    Host.Core.run Sys2Proof.core 2 s =
      .next { s with script := rest, turns := ts, reads := busRead s off :: busRead s off :: s.reads }

/-- R49: word `w` of the `PIX` window holds samples `4*w + b`, `b = 0..3`, the lower in the less significant byte, for
reads and for writes; sample `e` is `PIX[e div 8][e mod 8]`; other samples and all else stay. -/
def Obligations.PixWindowPacking : Prop :=
  (∀ (s : State) (w : Fin 16) (v : Word), s.busy = false →
    ∃ t, busWrite (BitVec.ofNat 12 (0x100 + 4 * w.val)) v s = t ∧
      (∀ b : Fin 4, t.pix[4 * w.val + b.val]'(by omega) = some (v.extractLsb' (8 * b.val) 8)) ∧
      (∀ e : Fin 64, e.val / 4 ≠ w.val → t.pix[e] = s.pix[e]) ∧
      t = { s with pix := t.pix } ∧ busRead t (BitVec.ofNat 12 (0x100 + 4 * w.val)) = v) ∧
  (∀ (s : State) (w : Fin 16) (b : Fin 4), s.busy = false →
    (busRead s (BitVec.ofNat 12 (0x100 + 4 * w.val))).extractLsb' (8 * b.val) 8 =
      sampleAt s ⟨4 * w.val + b.val, by omega⟩) ∧
  (∀ e : Fin 64, elt ⟨e.val / 8, by omega⟩ ⟨e.val % 8, by omega⟩ = e)

/-- R50: word `w` of the `COEF` window holds coefficients `2*w` (bits 15:0) and `2*w + 1` (bits 31:16), for reads and
for writes; coefficient `e` is `COEF[e div 8][e mod 8]`; other coefficients and all else stay. -/
def Obligations.CoefWindowPacking : Prop :=
  (∀ (s : State) (w : Fin 32) (x : Word), s.busy = false →
    ∃ t, busWrite (BitVec.ofNat 12 (0x200 + 4 * w.val)) x s = t ∧
      t.coef[2 * w.val]'(by omega) = some (x.extractLsb' 0 16) ∧
      t.coef[2 * w.val + 1]'(by omega) = some (x.extractLsb' 16 16) ∧
      (∀ e : Fin 64, e.val / 2 ≠ w.val → t.coef[e] = s.coef[e]) ∧
      t = { s with coef := t.coef } ∧ busRead t (BitVec.ofNat 12 (0x200 + 4 * w.val)) = x) ∧
  (∀ (s : State) (w : Fin 32), s.busy = false →
    (busRead s (BitVec.ofNat 12 (0x200 + 4 * w.val))).extractLsb' 0 16 = coeffAt s ⟨2 * w.val, by omega⟩ ∧
    (busRead s (BitVec.ofNat 12 (0x200 + 4 * w.val))).extractLsb' 16 16 = coeffAt s ⟨2 * w.val + 1, by omega⟩) ∧
  (∀ e : Fin 64, elt ⟨e.val / 8, by omega⟩ ⟨e.val % 8, by omega⟩ = e)

/-- The writable registers hold what is written to them, in the bits they have, and nothing else changes: `CTRL` in
every state, busy or not (R28, R55), the input registers while idle (R26, R35 to R37, R39 to R42). -/
def Obligations.WritableRegistersReadBack : Prop :=
  (∀ (s : State) (v : Word),
    busRead (busWrite 0x004 v s) 0x004 = v &&& 0x00000001 ∧ (busWrite 0x004 v s).ie = v.getLsbD 0 ∧
      busWrite 0x004 v s = { s with ie := v.getLsbD 0 }) ∧
  ∀ (s : State) (v : Word), s.busy = false →
    (busRead (busWrite 0x010 v s) 0x010 = v &&& 0x00007777 ∧
      (busWrite 0x010 v s).posAU = v.extractLsb' 0 3 ∧ (busWrite 0x010 v s).posAV = v.extractLsb' 4 3 ∧
      (busWrite 0x010 v s).posBU = v.extractLsb' 8 3 ∧ (busWrite 0x010 v s).posBV = v.extractLsb' 12 3 ∧
      ∃ a b c d, busWrite 0x010 v s = { s with posAU := a, posAV := b, posBU := c, posBV := d }) ∧
    (busRead (busWrite 0x014 v s) 0x014 = v &&& 0x0000FFFF ∧
      busWrite 0x014 v s = { s with stepReg := v.extractLsb' 0 16 }) ∧
    (busRead (busWrite 0x018 v s) 0x018 = v &&& 0x0000FFFF ∧
      busWrite 0x018 v s = { s with marginReg := v.extractLsb' 0 16 }) ∧
    (busRead (busWrite 0x020 v s) 0x020 = v &&& 0x0000FFFF ∧
      busWrite 0x020 v s = { s with frameW := v.extractLsb' 0 16 }) ∧
    (busRead (busWrite 0x024 v s) 0x024 = v &&& 0x0000FFFF ∧
      busWrite 0x024 v s = { s with frameH := v.extractLsb' 0 16 }) ∧
    (busRead (busWrite 0x028 v s) 0x028 = v ∧ busWrite 0x028 v s = { s with frameCnt := v }) ∧
    (busRead (busWrite 0x02C v s) 0x02C = v &&& 0x0000FFFF ∧
      busWrite 0x02C v s = { s with hdrW := v.extractLsb' 0 16 }) ∧
    (busRead (busWrite 0x030 v s) 0x030 = v ∧ busWrite 0x030 v s = { s with kidx := v })

/-- A write to a read-only register or a reserved offset does nothing, and a reserved offset reads 0, busy or not
(R47, R54, U7). -/
def Obligations.ReadOnlyAndReservedPlaces : Prop :=
  (∀ (s : State) (v : Word) (off : Offset),
    off ∈ ([0x000, 0x01C, 0x034, 0x038, 0x03C, 0x040, 0x044] : List Offset) → busWrite off v s = s) ∧
  (∀ (s : State) (v : Word) (off : Offset),
    (0x048 ≤ off.toNat ∧ off.toNat < 0x100) ∨ (0x140 ≤ off.toNat ∧ off.toNat < 0x200) ∨ 0x280 ≤ off.toNat →
    busWrite off v s = s ∧ busRead s off = 0)

/-- R112: what a write of `w` to `CMD` does: dropped while busy, refused if illegal, accepted otherwise. -/
def Obligations.CmdWriteRule : Prop :=
  ∀ (s : State) (w : Word),
    (s.busy = true →
      busWrite 0x00C w s = { s with err := if s.err = .noError then .busy else s.err }) ∧
    (s.busy = false → ∀ why, decode w = .illegal why →
      busWrite 0x00C w s = { s with err := if s.err = .noError then .illegalCmd else s.err, done := true }) ∧
    (s.busy = false → ∀ i, decode w = .cmd i →
      busWrite 0x00C w s = { s with latch := some w, busy := true, done := false })

/-- R113: while busy a write to a buffer window or to an input register is ignored and sets `ERR(BUSY)` if `ERR = 0`;
nothing else changes. -/
def Obligations.ProtectedWritesAreIgnoredWhileBusy : Prop :=
  ∀ (s : State) (v : Word) (off : Offset), s.busy = true →
    off ∈ ([0x010, 0x014, 0x018, 0x020, 0x024, 0x028, 0x02C, 0x030] : List Offset) ∨
      (0x100 ≤ off.toNat ∧ off.toNat < 0x140) ∨ (0x200 ≤ off.toNat ∧ off.toNat < 0x280) →
    busWrite off v s = { s with err := if s.err = .noError then .busy else s.err }

/-- What each register reads as, field by field (R27, R28, R34 to R44): always for the registers R55 lets the host read
while busy, and for the result registers while idle. -/
def Obligations.RegisterReads : Prop :=
  ∀ s : State,
    (busRead s 0x000 = 0x44435438 ∧ busRead s 0x00C = 0 ∧
     (busRead s 0x004).toNat = (if s.ie then 1 else 0) ∧
     (busRead s 0x010).toNat =
       s.posAU.toNat + 16 * s.posAV.toNat + 256 * s.posBU.toNat + 4096 * s.posBV.toNat ∧
     (busRead s 0x014).toNat = s.stepReg.toNat ∧ (busRead s 0x018).toNat = s.marginReg.toNat ∧
     (busRead s 0x020).toNat = s.frameW.toNat ∧ (busRead s 0x024).toNat = s.frameH.toNat ∧
     busRead s 0x028 = s.frameCnt ∧ (busRead s 0x02C).toNat = s.hdrW.toNat ∧ busRead s 0x030 = s.kidx) ∧
    (s.busy = false →
      (busRead s 0x01C).toNat = s.resultBit.toNat ∧ busRead s 0x034 = s.curFrame ∧
      (busRead s 0x038).toNat = s.curBy.toNat ∧ (busRead s 0x03C).toNat = s.curBx.toNat ∧
      busRead s 0x040 = s.capBits ∧ busRead s 0x044 = s.capBytes)

/-- R33: what a write to `STATUS` does, busy or not, and the layout of the word read. -/
def Obligations.StatusWriteRule : Prop :=
  ∀ (s : State) (w : Word),
    (busWrite 0x008 w s =
      { s with done := (if w.getLsbD 1 then false else s.done)
               err := (if w.getLsbD 3 then .noError else s.err) }) ∧
    (busRead s 0x008).getLsbD 0 = s.busy ∧ (busRead s 0x008).getLsbD 1 = s.done ∧
    (busRead s 0x008).getLsbD 2 = s.clip ∧ (busRead s 0x008).getLsbD 3 = false ∧
    (busRead s 0x008).extractLsb' 4 4 = s.err.code ∧ (busRead s 0x008).extractLsb' 8 24 = 0

/-- The `irq` level (R122, R119): it is 1 exactly when `CTRL.IE = 1` and `DONE = 1` or `ERR` is not 0; with
`CTRL.IE = 1` a word dropped or refused at a `CMD` write, and a protected write ignored while busy, raise it at once,
also with `DONE = 0`; completing any command raises it exactly when `CTRL.IE = 1`; `CLEARST` drops it; clearing
`CTRL.IE` masks it and clears no cause. -/
def Obligations.InterruptFollowsCompletionAndClear : Prop :=
  (∀ s : State, irq s = true ↔ s.ie = true ∧ (s.done = true ∨ s.err ≠ .noError)) ∧
  (∀ (s : State) (w : Word), s.ie = true → s.busy = true →
    irq (busWrite 0x00C w s) = true ∧ (busWrite 0x00C w s).done = s.done) ∧
  (∀ (s : State) (w : Word), s.ie = true → s.busy = false → (∀ i, decode w ≠ .cmd i) →
    irq (busWrite 0x00C w s) = true) ∧
  (∀ (s : State) (v : Word) (off : Offset), s.ie = true → s.busy = true →
    off ∈ ([0x010, 0x014, 0x018, 0x020, 0x024, 0x028, 0x02C, 0x030] : List Offset) ∨
      (0x100 ≤ off.toNat ∧ off.toNat < 0x140) ∨ (0x200 ≤ off.toNat ∧ off.toNat < 0x280) →
    irq (busWrite off v s) = true) ∧
  (∀ (i : Instr) (s : State), ∃ t, exec i s = .next t ∧ irq t = s.ie) ∧
  (∀ s : State, irq (busWrite 0x008 0x0000000A s) = false) ∧
  (∀ s : State, irq (busWrite 0x004 0 s) = false ∧
    (busWrite 0x004 0 s).done = s.done ∧ (busWrite 0x004 0 s).err = s.err)

/-- While a command is in flight no host transaction changes an input of any command, a result register, the latch or
`BUSY` (R55: "the inputs of a command cannot change between its acceptance and its engine step"). -/
def Obligations.InputsAreFrozenWhileBusy : Prop :=
  ∀ s t : State, s.busy = true → nextTurn s = .host → step s = .next t →
    SameInputs s t ∧ t.busy = true ∧ t.latch = s.latch ∧ t.clip = s.clip ∧ t.resultBit = s.resultBit ∧
    t.curFrame = s.curFrame ∧ t.curBy = s.curBy ∧ t.curBx = s.curBx ∧
    t.capBits = s.capBits ∧ t.capBytes = s.capBytes

/-- `LOADPIX` (R69): the 16 writes of its expansion, made while idle, set `PIX` to the 64 samples and change nothing
else. -/
def Obligations.LoadPixLoadsTheBlock : Prop :=
  ∀ (s : State) (p : List Sample), s.busy = false → p.length = 64 →
    ∃ t, (expand (.loadPix p)).foldl
        (fun u op => match op with | .wr _ off v => busWrite off v u | _ => u) s = t ∧
      (∀ e : Fin 64, t.pix[e] = p[e.val]?) ∧ t = { s with pix := t.pix }

/-! ## Every command -/

/-- Every command's engine step answers a next state with `BUSY = 0`, `DONE = 1` and the latch empty (R111), and leaves
`CTRL`, the configuration registers, the host agent and the schedule as they are. -/
def Obligations.EveryCommandEndsIdleAndDone : Prop :=
  ∀ (i : Instr) (s : State), ∃ t, exec i s = .next t ∧
    t.busy = false ∧ t.done = true ∧ t.latch = none ∧ t.ie = s.ie ∧
    t.posAU = s.posAU ∧ t.posAV = s.posAV ∧ t.posBU = s.posBU ∧ t.posBV = s.posBV ∧
    t.stepReg = s.stepReg ∧ t.marginReg = s.marginReg ∧ t.frameW = s.frameW ∧ t.frameH = s.frameH ∧
    t.frameCnt = s.frameCnt ∧ t.hdrW = s.hdrW ∧ t.kidx = s.kidx ∧
    t.script = s.script ∧ t.reads = s.reads ∧ t.turns = s.turns ∧ t.tick = s.tick ∧ t.resets = s.resets ∧
    t.engineId = s.engineId

/-- The frame of every command in the register window: a place the command's rule does not write holds the word it
held (R80, R81, R89 to R92, R98, R102, R105). `wordAt` is the word that stands at a place; `writesPlace` lists what a
command may write. -/
def Obligations.CommandsLeaveOtherPlacesAlone : Prop :=
  ∀ (i : Instr) (s : State), ∃ t, exec i s = .next t ∧
    ∀ off : Offset, writesPlace i s (locOf off) = false → wordAt t (locOf off) = wordAt s (locOf off)

/-- The configuration checks of R114, as one equivalence per command: from `ERR = 0` a command reports `BAD_CONFIG`
exactly in the listed cases. -/
def Obligations.BadConfigExactlyWhen : Prop :=
  ∀ (i : Instr) (s : State), s.err = .noError →
    ∃ t, exec i s = .next t ∧
      (t.err = .badConfig ↔
        match i with
        | .embed _ | .embedBlock _ =>
          (s.posAU = s.posBU ∧ s.posAV = s.posBV) ∨ s.stepReg = 0 ∨ s.marginReg = 0
        | .extract | .extractBlock => s.posAU = s.posBU ∧ s.posAV = s.posBV
        | .nop | .fdct | .idct | .cursor | .capacity => False)

/-- The codes each command can report at its engine step (R110): `FDCT`, `IDCT`, `CAPACITY` and `NOP` raise none, the
extract commands `BAD_CONFIG` only, the embed commands `BAD_CONFIG` or `COEF_OVF`, `CURSOR` `CURSOR_RANGE` only. -/
def Obligations.ErrorCodesPerCommand : Prop :=
  ∀ (i : Instr) (s : State), s.err = .noError →
    ∃ t, exec i s = .next t ∧
      t.err ∈ (match i with
        | .nop | .fdct | .idct | .capacity => [.noError]
        | .extract | .extractBlock => [.noError, .badConfig]
        | .embed _ | .embedBlock _ => [.noError, .badConfig, .coefOvf]
        | .cursor => [.noError, .cursorRange] : List ErrCode)

/-- R118: after a command that ends with an error, and after a dropped, refused or ignored write, everything but
`ERR`, `DONE`, `BUSY` and the latch is as before. A command errs in `s` when it would set `ERR` from 0; likewise a
write. -/
def Obligations.ErrorsChangeNothingElse : Prop :=
  (∀ (i : Instr) (s t : State),
    exec i { s with err := .noError } = .next t → t.err ≠ .noError →
    ∃ u, exec i s = .next u ∧ u = { s with err := u.err, done := true, busy := false, latch := none }) ∧
  (∀ (off : Offset) (v : Word) (s : State),
    (busWrite off v { s with err := .noError }).err ≠ .noError →
    ∃ u, busWrite off v s = u ∧ u = { s with err := u.err, done := u.done })

/-- R117: `ERR` is written only while it is 0 and returns to 0 only through a `STATUS` write with bit 3 set or reset;
commands are accepted and executed normally while it is not 0. -/
def Obligations.FirstErrorIsSticky : Prop :=
  (∀ s t : State, step s = .next t → s.err ≠ .noError → t.err ≠ s.err →
    t.err = .noError ∧
    (nextTurn s = .reset ∨
      (nextTurn s = .host ∧ ∃ off v rest, s.script = .wr 32 off v :: rest ∧ locOf off = .reg .status ∧
        v.getLsbD 3 = true))) ∧
  (∀ (i : Instr) (s : State), ∃ t u, exec i { s with err := .noError } = .next t ∧ exec i s = .next u ∧
    { u with err := .noError } = { t with err := .noError }) ∧
  (∀ (i : Instr) (s : State), s.busy = false →
    busWrite 0x00C (encode i) s = { s with latch := some (encode i), busy := true, done := false })

/-- R31: `CLIP` is written by every `IDCT` and every `EMBED_BLOCK` that completes normally, with 1 exactly when one of
the 64 samples was clamped; no other command and no bus write changes it; it is 0 after reset. -/
def Obligations.ClipIsWrittenByTheInverseTransformOnly : Prop :=
  (∀ s : State, ∃ t, exec .idct s = .next t ∧
    (t.clip = true ↔ ∃ i j, idct (coeffs s) i j < 0 ∨ idct (coeffs s) i j > 255)) ∧
  (∀ (b : BitVec 1) (s : State), ∃ t, exec (.embedBlock b) s = .next t ∧
    ∀ a' b' : Int, badEmbedConfig s = false →
      embedPair (fdct (samples s) (ua s) (va s)) (fdct (samples s) (ub s) (vb s)) b (stepS s) (marginM s) =
        some (a', b') →
      (t.clip = true ↔ ∃ i j, idct (replacePair s (fdct (samples s)) a' b') i j < 0 ∨
        idct (replacePair s (fdct (samples s)) a' b') i j > 255)) ∧
  (∀ (b : BitVec 1) (s : State), ∃ t, exec (.embedBlock b) s = .next t ∧
    (badEmbedConfig s = true ∨ embedPair (fdct (samples s) (ua s) (va s)) (fdct (samples s) (ub s) (vb s)) b
      (stepS s) (marginM s) = none → t.clip = s.clip)) ∧
  (∀ (i : Instr) (s : State), i ≠ .idct → (∀ b, i ≠ .embedBlock b) →
    ∃ t, exec i s = .next t ∧ t.clip = s.clip) ∧
  (∀ (off : Offset) (v : Word) (s : State), (busWrite off v s).clip = s.clip) ∧ State.reset.clip = false

/-- `RESULT` changes only by `EXTRACT` and `EXTRACT_BLOCK` (R38), `CUR_*` only by `CURSOR` (R43), `CAP_*` only by
`CAPACITY` (R44): over every step that is no reset. -/
def Obligations.ResultRegistersHaveOneWriter : Prop :=
  ∀ s t : State, step s = .next t → nextTurn s ≠ .reset →
    (t.resultBit ≠ s.resultBit → nextTurn s = .engine ∧ ∃ w, s.latch = some w ∧
      (decode w = .cmd .extract ∨ decode w = .cmd .extractBlock)) ∧
    (t.curFrame ≠ s.curFrame ∨ t.curBy ≠ s.curBy ∨ t.curBx ≠ s.curBx → nextTurn s = .engine ∧
      ∃ w, s.latch = some w ∧ decode w = .cmd .cursor) ∧
    (t.capBits ≠ s.capBits ∨ t.capBytes ≠ s.capBytes → nextTurn s = .engine ∧
      ∃ w, s.latch = some w ∧ decode w = .cmd .capacity)

/-- A command whose buffer inputs have been written since reset gives the same result whatever the unwritten elements
hold (R133, U1): the free values, picked by `engineId` and `resets`, do not matter to it. -/
def Obligations.WrittenInputsHideTheFreeValues : Prop :=
  ∀ (i : Instr) (s : State) (k r : Nat), inputsWritten i s = true →
    ∃ t, exec i s = .next t ∧
      exec i { s with engineId := k, resets := r } = .next { t with engineId := k, resets := r }

/-! ## NOP and the transforms -/

/-- `NOP` (R105): `BUSY <- 0`, `DONE <- 1`, the latch emptied, nothing else. -/
def Obligations.NopOnlyCompletes : Prop :=
  ∀ s : State, exec .nop s = .next { s with busy := false, done := true, latch := none }

/-- R72: the facts of the constant table. -/
def Obligations.TableFacts : Prop :=
  (∀ k n : Fin 8, T k (7 - n) = (-1) ^ k.val * T k n) ∧
  (∀ k n : Fin 8, |T k n| ≤ 4017) ∧ (∃ k n : Fin 8, |T k n| = 4017) ∧
  (∀ k : Fin 8, ∑ n : Fin 8, |T k n| ≤ 23168) ∧ ∑ n : Fin 8, |T 0 n| = 23168 ∧
  (∀ n : Fin 8, ∑ k : Fin 8, |T k n| ≤ 21641)

/-- R71: every entry of the constant table is the integer nearest to `2^13 * c(k) * cos((2n+1) k pi / 16)`, with
`c(0) = sqrt(1/8)` and `c(k) = 1/2` for `k >= 1` (no entry is a tie). -/
def Obligations.TableIsTheRoundedCosineTable : Prop :=
  ∀ k n : Fin 8,
    |(T k n : ℝ) - 2 ^ 13 * (if k = 0 then Real.sqrt (1 / 8) else 1 / 2) *
      Real.cos ((2 * (n.val : ℝ) + 1) * (k.val : ℝ) * Real.pi / 16)| < 1 / 2

/-- `FDCT` (R80, R73, R74): `COEF[u][v]` becomes `s16` of the two-stage rounded sum over the samples, rows first, for
all 64 elements, and nothing but `COEF`, `BUSY`, `DONE` and the latch changes. -/
def Obligations.FdctResult : Prop :=
  ∀ s : State, ∃ t, exec .fdct s = .next t ∧
    (∀ u v : Fin 8, t.coef[elt u v] = some (BitVec.ofInt 16
      ((∑ i : Fin 8, T u i *
          ((∑ n : Fin 8, ((sampleAt s (elt i n)).toNat : Int) * T v n + 2 ^ 9) / 2 ^ 10) + 2 ^ 12) / 2 ^ 13))) ∧
    t = { s with coef := t.coef, busy := false, done := true, latch := none }

/-- R75: the forward transform never leaves the stated ranges, so it never saturates or overflows; the largest value
reached is 16315, by the all-255 block. -/
def Obligations.FdctStaysInRange : Prop :=
  (∀ x : Matrix, (∀ i n, 0 ≤ x i n ∧ x i n ≤ 255) → ∀ u v i : Fin 8,
    |∑ n : Fin 8, x i n * T v n| ≤ 5907840 ∧ |fdctRows x i v| ≤ 5769 ∧
    |∑ m : Fin 8, T u m * fdctRows x m v| ≤ 133656192 ∧ |fdct x u v| ≤ 16316 ∧ fdct x u v ≤ 16315 ∧
    (s16 (fdct x u v)).toInt = fdct x u v) ∧
  fdct (fun _ _ => 255) 0 0 = 16315

/-- A uniform block has a single coefficient that is not zero, the DC one; the all-zero block has none (R80, corner
cases). -/
def Obligations.FdctOfAUniformBlock : Prop :=
  ∀ (s : State) (c : Sample), (∀ e : Fin 64, sampleAt s e = c) →
    ∃ t, exec .fdct s = .next t ∧
      (∀ u v : Fin 8, (u, v) ≠ (0, 0) → t.coef[elt u v] = some 0) ∧
      (c = 0 → t.coef[elt 0 0] = some 0) ∧ (c = 128 → t.coef[elt 0 0] = some 8190)

/-- `IDCT` (R81, R76, R77, R79): `PIX[i][j]` becomes the two-stage rounded sum over the coefficients, columns first,
clamped to `0..255`; `CLIP` says whether one was clamped; nothing else but `BUSY`, `DONE` and the latch changes. -/
def Obligations.IdctResult : Prop :=
  ∀ s : State, ∃ (t : State) (p : Fin 8 → Fin 8 → Int), exec .idct s = .next t ∧
    (∀ i j : Fin 8, p i j =
      (∑ v : Fin 8, ((∑ u : Fin 8, T u i * (coeffAt s (elt u v)).toInt + 2 ^ 12) / 2 ^ 13) * T v j + 2 ^ 15) / 2 ^ 16) ∧
    (∀ i j : Fin 8, ∃ x : Sample, t.pix[elt i j] = some x ∧ (x.toNat : Int) = min 255 (max 0 (p i j))) ∧
    (t.clip = true ↔ ∃ i j, p i j < 0 ∨ p i j > 255) ∧
    t = { s with pix := t.pix, clip := t.clip, busy := false, done := true, latch := none }

/-- R78: no intermediate of the inverse transform overflows a 32-bit signed accumulator, for any coefficients. -/
def Obligations.IdctStaysInRange : Prop :=
  ∀ y : Matrix, (∀ u v, -32768 ≤ y u v ∧ y u v ≤ 32767) → ∀ i j v : Fin 8,
    |∑ u : Fin 8, T u i * y u v| ≤ 709132288 ∧ |idctCols y i v| ≤ 86564 ∧
    |∑ w : Fin 8, idctCols y i w * T w j| ≤ 1873331524 ∧
    ∑ w : Fin 8, idctCols y i w * T w j + 2 ^ 15 < 2 ^ 31

/-! ## The coefficient pair -/

/-- R93: the postconditions of a successful `embed_pair`. -/
def Obligations.EmbedPairPostconditions : Prop :=
  ∀ (a b S M a' b' : Int) (bit : BitVec 1),
    -32768 ≤ a → a ≤ 32767 → -32768 ≤ b → b ≤ 32767 → 1 ≤ S → 1 ≤ M →
    embedPair a b bit S M = some (a', b') →
    (if bit = 1 then a' - b' ≥ M else b' - a' ≥ M) ∧ extractPair a' b' = bit ∧
    ((if bit = 1 then a - b ≥ M else b - a ≥ M) → a' = a ∧ b' = b) ∧
    a' + b' = a + b ∧
    (|a - b| ≥ M → max a' b' = max a b ∧ min a' b' = min a b) ∧
    (|a - b| < M → ∃ k : Int, k = (M - |a - b| + 2 * S - 1) / (2 * S) ∧
      max a' b' = max a b + k * S ∧ min a' b' = min a b - k * S ∧ 2 * (k * S) < (M - |a - b|) + 2 * S)

/-- `embed_pair` reports `Overflow` exactly when the pair the rule computes leaves the 16-bit range (R87): the larger
of the two values plus the nudge is over 32767, or the smaller minus the nudge under -32768. -/
def Obligations.EmbedPairOverflowsExactlyWhen : Prop :=
  ∀ (a b S M : Int) (bit : BitVec 1),
    -32768 ≤ a → a ≤ 32767 → -32768 ≤ b → b ≤ 32767 → 1 ≤ S → 1 ≤ M →
    (embedPair a b bit S M = none ↔
      ∃ k : Int, k = (if |a - b| < M then (M - |a - b| + 2 * S - 1) / (2 * S) else 0) ∧
        (max a b + k * S > 32767 ∨ min a b - k * S < -32768))

/-- `EMBED b` (R89), completing: with distinct positions, `STEP` and `MARGIN` not 0, and no overflow, the two
coefficients at A and B become the pair of R87 and nothing else changes but `BUSY`, `DONE` and the latch. -/
def Obligations.EmbedStoresThePair : Prop :=
  ∀ (b : BitVec 1) (s : State) (a' b' : Int),
    ¬ (s.posAU = s.posBU ∧ s.posAV = s.posBV) → s.stepReg ≠ 0 → s.marginReg ≠ 0 →
    embedPair (coeffA s) (coeffB s) b s.stepReg.toNat s.marginReg.toNat = some (a', b') →
    ∃ t, exec (.embed b) s = .next t ∧
      t.coef[elt (ua s) (va s)] = some (BitVec.ofInt 16 a') ∧
      t.coef[elt (ub s) (vb s)] = some (BitVec.ofInt 16 b') ∧
      (∀ e : Fin 64, e ≠ elt (ua s) (va s) → e ≠ elt (ub s) (vb s) → t.coef[e] = s.coef[e]) ∧
      t = { s with coef := t.coef, busy := false, done := true, latch := none }

/-- `EMBED b` (R89), ending with an error: `BAD_CONFIG` first, then `COEF_OVF`, and nothing but `ERR` (if it was 0),
`BUSY`, `DONE` and the latch changes. -/
def Obligations.EmbedErrors : Prop :=
  ∀ (b : BitVec 1) (s : State),
    ((s.posAU = s.posBU ∧ s.posAV = s.posBV) ∨ s.stepReg = 0 ∨ s.marginReg = 0 →
      exec (.embed b) s = .next { s with
        err := (if s.err = .noError then .badConfig else s.err), busy := false, done := true, latch := none }) ∧
    (¬ (s.posAU = s.posBU ∧ s.posAV = s.posBV) → s.stepReg ≠ 0 → s.marginReg ≠ 0 →
      embedPair (coeffA s) (coeffB s) b s.stepReg.toNat s.marginReg.toNat = none →
      exec (.embed b) s = .next { s with
        err := (if s.err = .noError then .coefOvf else s.err), busy := false, done := true, latch := none })

/-- `EXTRACT` (R90, R88): with distinct positions `RESULT.BIT` becomes 1 exactly when `coeff_a > coeff_b` as signed
numbers, and nothing else changes but `BUSY`, `DONE` and the latch; with equal positions `BAD_CONFIG`. -/
def Obligations.ExtractResult : Prop :=
  ∀ s : State,
    (¬ (s.posAU = s.posBU ∧ s.posAV = s.posBV) →
      exec .extract s = .next { s with
        resultBit := (if (coeffAt s (elt (ua s) (va s))).toInt > (coeffAt s (elt (ub s) (vb s))).toInt then 1 else 0)
        busy := false, done := true, latch := none }) ∧
    (s.posAU = s.posBU ∧ s.posAV = s.posBV →
      exec .extract s = .next { s with
        err := (if s.err = .noError then .badConfig else s.err), busy := false, done := true, latch := none })

/-- What `EMBED b` embeds, `EXTRACT` recovers (R86, R93): after an `EMBED b` that completes normally, `EXTRACT`
completes with `RESULT.BIT = b`. -/
def Obligations.EmbedThenExtractRecoversTheBit : Prop :=
  ∀ (b : BitVec 1) (s t : State),
    badEmbedConfig s = false → embedPair (coeffA s) (coeffB s) b (stepS s) (marginM s) ≠ none →
    exec (.embed b) s = .next t →
    ∃ u, exec .extract t = .next u ∧ u.resultBit = b ∧ u.err = s.err

/-- `EMBED_BLOCK b` (R91), completing: `COEF` becomes the forward transform of `PIX` with positions A and B replaced
by the pair of R87, `PIX` the clamped inverse transform of that, `CLIP` its clipped flag; nothing else changes but
`BUSY`, `DONE` and the latch. -/
def Obligations.EmbedBlockResult : Prop :=
  ∀ (b : BitVec 1) (s : State) (a' b' : Int),
    ¬ (s.posAU = s.posBU ∧ s.posAV = s.posBV) → s.stepReg ≠ 0 → s.marginReg ≠ 0 →
    embedPair (fdct (samples s) (ua s) (va s)) (fdct (samples s) (ub s) (vb s)) b
      s.stepReg.toNat s.marginReg.toNat = some (a', b') →
    ∃ (t : State) (y : Matrix), exec (.embedBlock b) s = .next t ∧
      y (ua s) (va s) = a' ∧ y (ub s) (vb s) = b' ∧
      (∀ u v, (u, v) ≠ (ua s, va s) → (u, v) ≠ (ub s, vb s) → y u v = fdct (samples s) u v) ∧
      (∀ u v : Fin 8, t.coef[elt u v] = some (BitVec.ofInt 16 (y u v))) ∧
      (∀ i j : Fin 8, ∃ x : Sample, t.pix[elt i j] = some x ∧ (x.toNat : Int) = min 255 (max 0 (idct y i j))) ∧
      (t.clip = true ↔ ∃ i j, idct y i j < 0 ∨ idct y i j > 255) ∧
      t = { s with pix := t.pix, coef := t.coef, clip := t.clip, busy := false, done := true, latch := none }

/-- `EMBED_BLOCK b` (R91), ending with an error: as `EMBED`, and nothing but `STATUS` and the latch changes. -/
def Obligations.EmbedBlockErrors : Prop :=
  ∀ (b : BitVec 1) (s : State),
    ((s.posAU = s.posBU ∧ s.posAV = s.posBV) ∨ s.stepReg = 0 ∨ s.marginReg = 0 →
      exec (.embedBlock b) s = .next { s with
        err := (if s.err = .noError then .badConfig else s.err), busy := false, done := true, latch := none }) ∧
    (¬ (s.posAU = s.posBU ∧ s.posAV = s.posBV) → s.stepReg ≠ 0 → s.marginReg ≠ 0 →
      embedPair (fdct (samples s) (ua s) (va s)) (fdct (samples s) (ub s) (vb s)) b
        s.stepReg.toNat s.marginReg.toNat = none →
      exec (.embedBlock b) s = .next { s with
        err := (if s.err = .noError then .coefOvf else s.err), busy := false, done := true, latch := none })

/-- `EMBED_BLOCK b` equals `FDCT`, then `EMBED b`, then `IDCT` run back to back, when it completes normally (R91). -/
def Obligations.EmbedBlockIsFdctThenEmbedThenIdct : Prop :=
  ∀ (b : BitVec 1) (s t1 t2 t3 : State),
    badEmbedConfig s = false → exec .fdct s = .next t1 →
    embedPair (coeffA t1) (coeffB t1) b (stepS t1) (marginM t1) ≠ none →
    exec (.embed b) t1 = .next t2 → exec .idct t2 = .next t3 →
    exec (.embedBlock b) s = .next t3

/-- `COEF_OVF` cannot follow an `FDCT` when `M div 2 + S <= 16451` (R91, corner cases; the reset values qualify): then
every `EMBED_BLOCK` with a good configuration completes normally. -/
def Obligations.EmbedBlockCannotOverflow : Prop :=
  ∀ (b : BitVec 1) (s : State),
    badEmbedConfig s = false → s.marginReg.toNat / 2 + s.stepReg.toNat ≤ 16451 →
    ∃ a' b', exec (.embedBlock b) s =
      .next (complete (storeEmbeddedBlock s (replacePair s (fdct (samples s)) a' b')))

/-- `EXTRACT_BLOCK` (R92): with distinct positions `COEF` becomes the forward transform of `PIX` and `RESULT.BIT` the
comparison of its positions A and B; nothing else changes but `BUSY`, `DONE` and the latch; with equal positions
`BAD_CONFIG` and nothing else. On success it equals `FDCT` then `EXTRACT`. -/
def Obligations.ExtractBlockResult : Prop :=
  (∀ s t1 t2 : State, ¬ (s.posAU = s.posBU ∧ s.posAV = s.posBV) →
    exec .fdct s = .next t1 → exec .extract t1 = .next t2 → exec .extractBlock s = .next t2) ∧
  ∀ s : State,
    (¬ (s.posAU = s.posBU ∧ s.posAV = s.posBV) →
      ∃ t, exec .extractBlock s = .next t ∧
        (∀ u v : Fin 8, t.coef[elt u v] = some (BitVec.ofInt 16 (fdct (samples s) u v))) ∧
        t.resultBit = (if fdct (samples s) (ua s) (va s) > fdct (samples s) (ub s) (vb s) then 1 else 0) ∧
        t = { s with coef := t.coef, resultBit := t.resultBit, busy := false, done := true, latch := none }) ∧
    (s.posAU = s.posBU ∧ s.posAV = s.posBV →
      exec .extractBlock s = .next { s with
        err := (if s.err = .noError then .badConfig else s.err), busy := false, done := true, latch := none })

/-! ## Cursor and capacity -/

/-- `CURSOR` (R98, R97, R96), completing: for a frame with a whole block and `k < bpf * F` the three registers become
frame, block row and block column of block `k`, each fitting its register, and nothing else changes but `BUSY`, `DONE`
and the latch. -/
def Obligations.CursorResult : Prop :=
  ∀ (s : State) (bw bh k : Nat),
    bw = s.frameW.toNat / 8 → bh = s.frameH.toNat / 8 → k = s.kidx.toNat →
    0 < bw * bh → k < bw * bh * s.frameCnt.toNat →
    ∃ t, exec .cursor s = .next t ∧
      t.curFrame.toNat = k / (bw * bh) ∧ t.curBy.toNat = k % (bw * bh) / bw ∧ t.curBx.toNat = k % (bw * bh) % bw ∧
      t.curFrame.toNat < s.frameCnt.toNat ∧ t.curBy.toNat < bh ∧ t.curBx.toNat < bw ∧
      t = { s with curFrame := t.curFrame, curBy := t.curBy, curBx := t.curBx
                   busy := false, done := true, latch := none }

/-- `CURSOR` (R98) out of range: when the frame has no whole block (`W < 8` or `H < 8`), when `FRAME_CNT = 0`, or when
`KIDX` is at or past the last block it ends with `CURSOR_RANGE` and changes nothing else. -/
def Obligations.CursorOutOfRange : Prop :=
  ∀ s : State,
    s.frameW.toNat < 8 ∨ s.frameH.toNat < 8 ∨ s.frameCnt = 0 ∨
      s.frameW.toNat / 8 * (s.frameH.toNat / 8) * s.frameCnt.toNat ≤ s.kidx.toNat →
    exec .cursor s = .next { s with
      err := (if s.err = .noError then .cursorRange else s.err), busy := false, done := true, latch := none }

/-- The cursor is a bijection from `0 .. bpf*F - 1` onto the triples `frame < F`, `by < bh`, `bx < bw`, increasing in
the order frame, then block row, then block column (R99); so disjoint ranges of indices name disjoint blocks (R18). -/
def Obligations.CursorIsAnOrderedBijection : Prop :=
  ∀ bw bh F : Nat, 0 < bw → 0 < bh →
    (∀ k, k < bw * bh * F → (cursorOf bw (bw * bh) k).frame < F ∧ (cursorOf bw (bw * bh) k).by_ < bh ∧
      (cursorOf bw (bw * bh) k).bx < bw) ∧
    (∀ f y x, f < F → y < bh → x < bw →
      ∃ k, k < bw * bh * F ∧ cursorOf bw (bw * bh) k = { frame := f, by_ := y, bx := x }) ∧
    (∀ k m, k < m →
      (cursorOf bw (bw * bh) k).frame < (cursorOf bw (bw * bh) m).frame ∨
      ((cursorOf bw (bw * bh) k).frame = (cursorOf bw (bw * bh) m).frame ∧
        ((cursorOf bw (bw * bh) k).by_ < (cursorOf bw (bw * bh) m).by_ ∨
          ((cursorOf bw (bw * bh) k).by_ = (cursorOf bw (bw * bh) m).by_ ∧
            (cursorOf bw (bw * bh) k).bx < (cursorOf bw (bw * bh) m).bx))))

/-- `CAPACITY` (R101, R102, R100): `CAP_BITS` and `CAP_BYTES` become the saturated bit and whole-byte counts of
`bpf * F - HDR_W`, 0 when that is not positive; nothing else changes but `BUSY`, `DONE` and the latch. -/
def Obligations.CapacityResult : Prop :=
  ∀ (s : State) (total bits : Nat),
    total = s.frameW.toNat / 8 * (s.frameH.toNat / 8) * s.frameCnt.toNat →
    (total ≤ s.hdrW.toNat → bits = 0) → (s.hdrW.toNat < total → bits + s.hdrW.toNat = total) →
    ∃ t, exec .capacity s = .next t ∧
      t.capBits.toNat = min bits (2 ^ 32 - 1) ∧ t.capBytes.toNat = min (bits / 8) (2 ^ 32 - 1) ∧
      t = { s with capBits := t.capBits, capBytes := t.capBytes, busy := false, done := true, latch := none }

/-- The capacity is non-decreasing in frame width, frame height and frame count and non-increasing in the header width
(R103). -/
def Obligations.CapacityIsMonotone : Prop :=
  ∀ s s' t t' : State,
    s.frameW.toNat ≤ s'.frameW.toNat → s.frameH.toNat ≤ s'.frameH.toNat → s.frameCnt.toNat ≤ s'.frameCnt.toNat →
    s'.hdrW.toNat ≤ s.hdrW.toNat →
    exec .capacity s = .next t → exec .capacity s' = .next t' →
    t.capBits.toNat ≤ t'.capBits.toNat ∧ t.capBytes.toNat ≤ t'.capBytes.toNat

/-- A payload that passes the capacity check never meets `CURSOR_RANGE` (R103): with a capacity that is not 0, every
index below `HDR_W + CAP_BITS` completes `CURSOR` without an error. -/
def Obligations.PayloadWithinCapacityIsInCursorRange : Prop :=
  ∀ (s t : State) (k : Word),
    exec .capacity s = .next t → t.capBits ≠ 0 → k.toNat < s.hdrW.toNat + t.capBits.toNat →
    ∃ u, exec .cursor { t with kidx := k } = .next u ∧ u.err = t.err ∧
      u.curFrame.toNat * (s.frameW.toNat / 8 * (s.frameH.toNat / 8)) + u.curBy.toNat * (s.frameW.toNat / 8) +
        u.curBx.toNat = k.toNat

/-! ## Several engines -/

/-- Engines share no state (R128): a step of engine `k` leaves every other engine and every `BASE` as it was, and is
that engine's own step. After reset every engine of a platform is in its reset state, with its own `BASE` and `irq = 0`
(that engine `k` has the number `k` is log entry 13, the model's choice). -/
def Obligations.EnginesShareNoState : Prop :=
  (∀ (p : List Slot) (k : Nat) (x : Slot) (t : State), p[k]? = some x → step x.engine = .next t →
    ∃ q, stepEngine p k = .next q ∧ q[k]? = some { base := x.base, engine := t } ∧
      (∀ j, j ≠ k → q[j]? = p[j]?) ∧ q.map Slot.base = p.map Slot.base ∧
      q.map (fun y => y.engine.engineId) = p.map (fun y => y.engine.engineId)) ∧
  (∀ (bases : List Nat) (k : Nat), (resetPlatform bases)[k]? =
    bases[k]?.map fun b => { base := b, engine := { State.reset with engineId := k } }) ∧
  (∀ bases : List Nat, irqLines (resetPlatform bases) = List.replicate bases.length false)
end

