-- ==== Sys2Proof/Laws/State.lean ====
section
/-! SUPPORT. Laws/State.lean: one lemma per field per named update of the state, each true by rfl, so that no proof
unfolds a record update. -/

namespace Sys2Proof.Machine

/-! ### `setErr` -/

@[simp] theorem setErr_pix (c : ErrCode) (s : State) : (setErr c s).pix = s.pix := rfl
@[simp] theorem setErr_coef (c : ErrCode) (s : State) : (setErr c s).coef = s.coef := rfl
@[simp] theorem setErr_ie (c : ErrCode) (s : State) : (setErr c s).ie = s.ie := rfl
@[simp] theorem setErr_busy (c : ErrCode) (s : State) : (setErr c s).busy = s.busy := rfl
@[simp] theorem setErr_done (c : ErrCode) (s : State) : (setErr c s).done = s.done := rfl
@[simp] theorem setErr_clip (c : ErrCode) (s : State) : (setErr c s).clip = s.clip := rfl
@[simp] theorem setErr_err (c : ErrCode) (s : State) : (setErr c s).err = if s.err = .noError then c else s.err := rfl
@[simp] theorem setErr_latch (c : ErrCode) (s : State) : (setErr c s).latch = s.latch := rfl
@[simp] theorem setErr_posAU (c : ErrCode) (s : State) : (setErr c s).posAU = s.posAU := rfl
@[simp] theorem setErr_posAV (c : ErrCode) (s : State) : (setErr c s).posAV = s.posAV := rfl
@[simp] theorem setErr_posBU (c : ErrCode) (s : State) : (setErr c s).posBU = s.posBU := rfl
@[simp] theorem setErr_posBV (c : ErrCode) (s : State) : (setErr c s).posBV = s.posBV := rfl
@[simp] theorem setErr_stepReg (c : ErrCode) (s : State) : (setErr c s).stepReg = s.stepReg := rfl
@[simp] theorem setErr_marginReg (c : ErrCode) (s : State) : (setErr c s).marginReg = s.marginReg := rfl
@[simp] theorem setErr_resultBit (c : ErrCode) (s : State) : (setErr c s).resultBit = s.resultBit := rfl
@[simp] theorem setErr_frameW (c : ErrCode) (s : State) : (setErr c s).frameW = s.frameW := rfl
@[simp] theorem setErr_frameH (c : ErrCode) (s : State) : (setErr c s).frameH = s.frameH := rfl
@[simp] theorem setErr_frameCnt (c : ErrCode) (s : State) : (setErr c s).frameCnt = s.frameCnt := rfl
@[simp] theorem setErr_hdrW (c : ErrCode) (s : State) : (setErr c s).hdrW = s.hdrW := rfl
@[simp] theorem setErr_kidx (c : ErrCode) (s : State) : (setErr c s).kidx = s.kidx := rfl
@[simp] theorem setErr_curFrame (c : ErrCode) (s : State) : (setErr c s).curFrame = s.curFrame := rfl
@[simp] theorem setErr_curBy (c : ErrCode) (s : State) : (setErr c s).curBy = s.curBy := rfl
@[simp] theorem setErr_curBx (c : ErrCode) (s : State) : (setErr c s).curBx = s.curBx := rfl
@[simp] theorem setErr_capBits (c : ErrCode) (s : State) : (setErr c s).capBits = s.capBits := rfl
@[simp] theorem setErr_capBytes (c : ErrCode) (s : State) : (setErr c s).capBytes = s.capBytes := rfl
@[simp] theorem setErr_script (c : ErrCode) (s : State) : (setErr c s).script = s.script := rfl
@[simp] theorem setErr_reads (c : ErrCode) (s : State) : (setErr c s).reads = s.reads := rfl
@[simp] theorem setErr_turns (c : ErrCode) (s : State) : (setErr c s).turns = s.turns := rfl
@[simp] theorem setErr_tick (c : ErrCode) (s : State) : (setErr c s).tick = s.tick := rfl
@[simp] theorem setErr_resets (c : ErrCode) (s : State) : (setErr c s).resets = s.resets := rfl
@[simp] theorem setErr_engineId (c : ErrCode) (s : State) : (setErr c s).engineId = s.engineId := rfl

/-! ### `complete` -/

@[simp] theorem complete_pix (s : State) : (complete s).pix = s.pix := rfl
@[simp] theorem complete_coef (s : State) : (complete s).coef = s.coef := rfl
@[simp] theorem complete_ie (s : State) : (complete s).ie = s.ie := rfl
@[simp] theorem complete_busy (s : State) : (complete s).busy = false := rfl
@[simp] theorem complete_done (s : State) : (complete s).done = true := rfl
@[simp] theorem complete_clip (s : State) : (complete s).clip = s.clip := rfl
@[simp] theorem complete_err (s : State) : (complete s).err = s.err := rfl
@[simp] theorem complete_latch (s : State) : (complete s).latch = none := rfl
@[simp] theorem complete_posAU (s : State) : (complete s).posAU = s.posAU := rfl
@[simp] theorem complete_posAV (s : State) : (complete s).posAV = s.posAV := rfl
@[simp] theorem complete_posBU (s : State) : (complete s).posBU = s.posBU := rfl
@[simp] theorem complete_posBV (s : State) : (complete s).posBV = s.posBV := rfl
@[simp] theorem complete_stepReg (s : State) : (complete s).stepReg = s.stepReg := rfl
@[simp] theorem complete_marginReg (s : State) : (complete s).marginReg = s.marginReg := rfl
@[simp] theorem complete_resultBit (s : State) : (complete s).resultBit = s.resultBit := rfl
@[simp] theorem complete_frameW (s : State) : (complete s).frameW = s.frameW := rfl
@[simp] theorem complete_frameH (s : State) : (complete s).frameH = s.frameH := rfl
@[simp] theorem complete_frameCnt (s : State) : (complete s).frameCnt = s.frameCnt := rfl
@[simp] theorem complete_hdrW (s : State) : (complete s).hdrW = s.hdrW := rfl
@[simp] theorem complete_kidx (s : State) : (complete s).kidx = s.kidx := rfl
@[simp] theorem complete_curFrame (s : State) : (complete s).curFrame = s.curFrame := rfl
@[simp] theorem complete_curBy (s : State) : (complete s).curBy = s.curBy := rfl
@[simp] theorem complete_curBx (s : State) : (complete s).curBx = s.curBx := rfl
@[simp] theorem complete_capBits (s : State) : (complete s).capBits = s.capBits := rfl
@[simp] theorem complete_capBytes (s : State) : (complete s).capBytes = s.capBytes := rfl
@[simp] theorem complete_script (s : State) : (complete s).script = s.script := rfl
@[simp] theorem complete_reads (s : State) : (complete s).reads = s.reads := rfl
@[simp] theorem complete_turns (s : State) : (complete s).turns = s.turns := rfl
@[simp] theorem complete_tick (s : State) : (complete s).tick = s.tick := rfl
@[simp] theorem complete_resets (s : State) : (complete s).resets = s.resets := rfl
@[simp] theorem complete_engineId (s : State) : (complete s).engineId = s.engineId := rfl

/-! ### `raiseErr` -/

@[simp] theorem raiseErr_pix (c : ErrCode) (s : State) : (raiseErr c s).pix = s.pix := rfl
@[simp] theorem raiseErr_coef (c : ErrCode) (s : State) : (raiseErr c s).coef = s.coef := rfl
@[simp] theorem raiseErr_ie (c : ErrCode) (s : State) : (raiseErr c s).ie = s.ie := rfl
@[simp] theorem raiseErr_busy (c : ErrCode) (s : State) : (raiseErr c s).busy = false := rfl
@[simp] theorem raiseErr_done (c : ErrCode) (s : State) : (raiseErr c s).done = true := rfl
@[simp] theorem raiseErr_clip (c : ErrCode) (s : State) : (raiseErr c s).clip = s.clip := rfl
@[simp] theorem raiseErr_err (c : ErrCode) (s : State) :
    (raiseErr c s).err = if s.err = .noError then c else s.err := rfl
@[simp] theorem raiseErr_latch (c : ErrCode) (s : State) : (raiseErr c s).latch = none := rfl
@[simp] theorem raiseErr_posAU (c : ErrCode) (s : State) : (raiseErr c s).posAU = s.posAU := rfl
@[simp] theorem raiseErr_posAV (c : ErrCode) (s : State) : (raiseErr c s).posAV = s.posAV := rfl
@[simp] theorem raiseErr_posBU (c : ErrCode) (s : State) : (raiseErr c s).posBU = s.posBU := rfl
@[simp] theorem raiseErr_posBV (c : ErrCode) (s : State) : (raiseErr c s).posBV = s.posBV := rfl
@[simp] theorem raiseErr_stepReg (c : ErrCode) (s : State) : (raiseErr c s).stepReg = s.stepReg := rfl
@[simp] theorem raiseErr_marginReg (c : ErrCode) (s : State) : (raiseErr c s).marginReg = s.marginReg := rfl
@[simp] theorem raiseErr_resultBit (c : ErrCode) (s : State) : (raiseErr c s).resultBit = s.resultBit := rfl
@[simp] theorem raiseErr_frameW (c : ErrCode) (s : State) : (raiseErr c s).frameW = s.frameW := rfl
@[simp] theorem raiseErr_frameH (c : ErrCode) (s : State) : (raiseErr c s).frameH = s.frameH := rfl
@[simp] theorem raiseErr_frameCnt (c : ErrCode) (s : State) : (raiseErr c s).frameCnt = s.frameCnt := rfl
@[simp] theorem raiseErr_hdrW (c : ErrCode) (s : State) : (raiseErr c s).hdrW = s.hdrW := rfl
@[simp] theorem raiseErr_kidx (c : ErrCode) (s : State) : (raiseErr c s).kidx = s.kidx := rfl
@[simp] theorem raiseErr_curFrame (c : ErrCode) (s : State) : (raiseErr c s).curFrame = s.curFrame := rfl
@[simp] theorem raiseErr_curBy (c : ErrCode) (s : State) : (raiseErr c s).curBy = s.curBy := rfl
@[simp] theorem raiseErr_curBx (c : ErrCode) (s : State) : (raiseErr c s).curBx = s.curBx := rfl
@[simp] theorem raiseErr_capBits (c : ErrCode) (s : State) : (raiseErr c s).capBits = s.capBits := rfl
@[simp] theorem raiseErr_capBytes (c : ErrCode) (s : State) : (raiseErr c s).capBytes = s.capBytes := rfl
@[simp] theorem raiseErr_script (c : ErrCode) (s : State) : (raiseErr c s).script = s.script := rfl
@[simp] theorem raiseErr_reads (c : ErrCode) (s : State) : (raiseErr c s).reads = s.reads := rfl
@[simp] theorem raiseErr_turns (c : ErrCode) (s : State) : (raiseErr c s).turns = s.turns := rfl
@[simp] theorem raiseErr_tick (c : ErrCode) (s : State) : (raiseErr c s).tick = s.tick := rfl
@[simp] theorem raiseErr_resets (c : ErrCode) (s : State) : (raiseErr c s).resets = s.resets := rfl
@[simp] theorem raiseErr_engineId (c : ErrCode) (s : State) : (raiseErr c s).engineId = s.engineId := rfl

/-! ### `acceptCommand` -/

@[simp] theorem acceptCommand_pix (w : Word) (s : State) : (acceptCommand w s).pix = s.pix := rfl
@[simp] theorem acceptCommand_coef (w : Word) (s : State) : (acceptCommand w s).coef = s.coef := rfl
@[simp] theorem acceptCommand_ie (w : Word) (s : State) : (acceptCommand w s).ie = s.ie := rfl
@[simp] theorem acceptCommand_busy (w : Word) (s : State) : (acceptCommand w s).busy = true := rfl
@[simp] theorem acceptCommand_done (w : Word) (s : State) : (acceptCommand w s).done = false := rfl
@[simp] theorem acceptCommand_clip (w : Word) (s : State) : (acceptCommand w s).clip = s.clip := rfl
@[simp] theorem acceptCommand_err (w : Word) (s : State) : (acceptCommand w s).err = s.err := rfl
@[simp] theorem acceptCommand_latch (w : Word) (s : State) : (acceptCommand w s).latch = some w := rfl
@[simp] theorem acceptCommand_posAU (w : Word) (s : State) : (acceptCommand w s).posAU = s.posAU := rfl
@[simp] theorem acceptCommand_posAV (w : Word) (s : State) : (acceptCommand w s).posAV = s.posAV := rfl
@[simp] theorem acceptCommand_posBU (w : Word) (s : State) : (acceptCommand w s).posBU = s.posBU := rfl
@[simp] theorem acceptCommand_posBV (w : Word) (s : State) : (acceptCommand w s).posBV = s.posBV := rfl
@[simp] theorem acceptCommand_stepReg (w : Word) (s : State) : (acceptCommand w s).stepReg = s.stepReg := rfl
@[simp] theorem acceptCommand_marginReg (w : Word) (s : State) : (acceptCommand w s).marginReg = s.marginReg := rfl
@[simp] theorem acceptCommand_resultBit (w : Word) (s : State) : (acceptCommand w s).resultBit = s.resultBit := rfl
@[simp] theorem acceptCommand_frameW (w : Word) (s : State) : (acceptCommand w s).frameW = s.frameW := rfl
@[simp] theorem acceptCommand_frameH (w : Word) (s : State) : (acceptCommand w s).frameH = s.frameH := rfl
@[simp] theorem acceptCommand_frameCnt (w : Word) (s : State) : (acceptCommand w s).frameCnt = s.frameCnt := rfl
@[simp] theorem acceptCommand_hdrW (w : Word) (s : State) : (acceptCommand w s).hdrW = s.hdrW := rfl
@[simp] theorem acceptCommand_kidx (w : Word) (s : State) : (acceptCommand w s).kidx = s.kidx := rfl
@[simp] theorem acceptCommand_curFrame (w : Word) (s : State) : (acceptCommand w s).curFrame = s.curFrame := rfl
@[simp] theorem acceptCommand_curBy (w : Word) (s : State) : (acceptCommand w s).curBy = s.curBy := rfl
@[simp] theorem acceptCommand_curBx (w : Word) (s : State) : (acceptCommand w s).curBx = s.curBx := rfl
@[simp] theorem acceptCommand_capBits (w : Word) (s : State) : (acceptCommand w s).capBits = s.capBits := rfl
@[simp] theorem acceptCommand_capBytes (w : Word) (s : State) : (acceptCommand w s).capBytes = s.capBytes := rfl
@[simp] theorem acceptCommand_script (w : Word) (s : State) : (acceptCommand w s).script = s.script := rfl
@[simp] theorem acceptCommand_reads (w : Word) (s : State) : (acceptCommand w s).reads = s.reads := rfl
@[simp] theorem acceptCommand_turns (w : Word) (s : State) : (acceptCommand w s).turns = s.turns := rfl
@[simp] theorem acceptCommand_tick (w : Word) (s : State) : (acceptCommand w s).tick = s.tick := rfl
@[simp] theorem acceptCommand_resets (w : Word) (s : State) : (acceptCommand w s).resets = s.resets := rfl
@[simp] theorem acceptCommand_engineId (w : Word) (s : State) : (acceptCommand w s).engineId = s.engineId := rfl

/-! ### `writeStatus` -/

@[simp] theorem writeStatus_pix (w : Word) (s : State) : (writeStatus w s).pix = s.pix := rfl
@[simp] theorem writeStatus_coef (w : Word) (s : State) : (writeStatus w s).coef = s.coef := rfl
@[simp] theorem writeStatus_ie (w : Word) (s : State) : (writeStatus w s).ie = s.ie := rfl
@[simp] theorem writeStatus_busy (w : Word) (s : State) : (writeStatus w s).busy = s.busy := rfl
@[simp] theorem writeStatus_done (w : Word) (s : State) :
    (writeStatus w s).done = if w.getLsbD 1 then false else s.done := rfl
@[simp] theorem writeStatus_clip (w : Word) (s : State) : (writeStatus w s).clip = s.clip := rfl
@[simp] theorem writeStatus_err (w : Word) (s : State) :
    (writeStatus w s).err = if w.getLsbD 3 then .noError else s.err := rfl
@[simp] theorem writeStatus_latch (w : Word) (s : State) : (writeStatus w s).latch = s.latch := rfl
@[simp] theorem writeStatus_posAU (w : Word) (s : State) : (writeStatus w s).posAU = s.posAU := rfl
@[simp] theorem writeStatus_posAV (w : Word) (s : State) : (writeStatus w s).posAV = s.posAV := rfl
@[simp] theorem writeStatus_posBU (w : Word) (s : State) : (writeStatus w s).posBU = s.posBU := rfl
@[simp] theorem writeStatus_posBV (w : Word) (s : State) : (writeStatus w s).posBV = s.posBV := rfl
@[simp] theorem writeStatus_stepReg (w : Word) (s : State) : (writeStatus w s).stepReg = s.stepReg := rfl
@[simp] theorem writeStatus_marginReg (w : Word) (s : State) : (writeStatus w s).marginReg = s.marginReg := rfl
@[simp] theorem writeStatus_resultBit (w : Word) (s : State) : (writeStatus w s).resultBit = s.resultBit := rfl
@[simp] theorem writeStatus_frameW (w : Word) (s : State) : (writeStatus w s).frameW = s.frameW := rfl
@[simp] theorem writeStatus_frameH (w : Word) (s : State) : (writeStatus w s).frameH = s.frameH := rfl
@[simp] theorem writeStatus_frameCnt (w : Word) (s : State) : (writeStatus w s).frameCnt = s.frameCnt := rfl
@[simp] theorem writeStatus_hdrW (w : Word) (s : State) : (writeStatus w s).hdrW = s.hdrW := rfl
@[simp] theorem writeStatus_kidx (w : Word) (s : State) : (writeStatus w s).kidx = s.kidx := rfl
@[simp] theorem writeStatus_curFrame (w : Word) (s : State) : (writeStatus w s).curFrame = s.curFrame := rfl
@[simp] theorem writeStatus_curBy (w : Word) (s : State) : (writeStatus w s).curBy = s.curBy := rfl
@[simp] theorem writeStatus_curBx (w : Word) (s : State) : (writeStatus w s).curBx = s.curBx := rfl
@[simp] theorem writeStatus_capBits (w : Word) (s : State) : (writeStatus w s).capBits = s.capBits := rfl
@[simp] theorem writeStatus_capBytes (w : Word) (s : State) : (writeStatus w s).capBytes = s.capBytes := rfl
@[simp] theorem writeStatus_script (w : Word) (s : State) : (writeStatus w s).script = s.script := rfl
@[simp] theorem writeStatus_reads (w : Word) (s : State) : (writeStatus w s).reads = s.reads := rfl
@[simp] theorem writeStatus_turns (w : Word) (s : State) : (writeStatus w s).turns = s.turns := rfl
@[simp] theorem writeStatus_tick (w : Word) (s : State) : (writeStatus w s).tick = s.tick := rfl
@[simp] theorem writeStatus_resets (w : Word) (s : State) : (writeStatus w s).resets = s.resets := rfl
@[simp] theorem writeStatus_engineId (w : Word) (s : State) : (writeStatus w s).engineId = s.engineId := rfl

/-! ### `dropTurn` -/

@[simp] theorem dropTurn_pix (s : State) : (dropTurn s).pix = s.pix := rfl
@[simp] theorem dropTurn_coef (s : State) : (dropTurn s).coef = s.coef := rfl
@[simp] theorem dropTurn_ie (s : State) : (dropTurn s).ie = s.ie := rfl
@[simp] theorem dropTurn_busy (s : State) : (dropTurn s).busy = s.busy := rfl
@[simp] theorem dropTurn_done (s : State) : (dropTurn s).done = s.done := rfl
@[simp] theorem dropTurn_clip (s : State) : (dropTurn s).clip = s.clip := rfl
@[simp] theorem dropTurn_err (s : State) : (dropTurn s).err = s.err := rfl
@[simp] theorem dropTurn_latch (s : State) : (dropTurn s).latch = s.latch := rfl
@[simp] theorem dropTurn_posAU (s : State) : (dropTurn s).posAU = s.posAU := rfl
@[simp] theorem dropTurn_posAV (s : State) : (dropTurn s).posAV = s.posAV := rfl
@[simp] theorem dropTurn_posBU (s : State) : (dropTurn s).posBU = s.posBU := rfl
@[simp] theorem dropTurn_posBV (s : State) : (dropTurn s).posBV = s.posBV := rfl
@[simp] theorem dropTurn_stepReg (s : State) : (dropTurn s).stepReg = s.stepReg := rfl
@[simp] theorem dropTurn_marginReg (s : State) : (dropTurn s).marginReg = s.marginReg := rfl
@[simp] theorem dropTurn_resultBit (s : State) : (dropTurn s).resultBit = s.resultBit := rfl
@[simp] theorem dropTurn_frameW (s : State) : (dropTurn s).frameW = s.frameW := rfl
@[simp] theorem dropTurn_frameH (s : State) : (dropTurn s).frameH = s.frameH := rfl
@[simp] theorem dropTurn_frameCnt (s : State) : (dropTurn s).frameCnt = s.frameCnt := rfl
@[simp] theorem dropTurn_hdrW (s : State) : (dropTurn s).hdrW = s.hdrW := rfl
@[simp] theorem dropTurn_kidx (s : State) : (dropTurn s).kidx = s.kidx := rfl
@[simp] theorem dropTurn_curFrame (s : State) : (dropTurn s).curFrame = s.curFrame := rfl
@[simp] theorem dropTurn_curBy (s : State) : (dropTurn s).curBy = s.curBy := rfl
@[simp] theorem dropTurn_curBx (s : State) : (dropTurn s).curBx = s.curBx := rfl
@[simp] theorem dropTurn_capBits (s : State) : (dropTurn s).capBits = s.capBits := rfl
@[simp] theorem dropTurn_capBytes (s : State) : (dropTurn s).capBytes = s.capBytes := rfl
@[simp] theorem dropTurn_script (s : State) : (dropTurn s).script = s.script := rfl
@[simp] theorem dropTurn_reads (s : State) : (dropTurn s).reads = s.reads := rfl
@[simp] theorem dropTurn_turns (s : State) : (dropTurn s).turns = s.turns.tail := rfl
@[simp] theorem dropTurn_tick (s : State) : (dropTurn s).tick = s.tick := rfl
@[simp] theorem dropTurn_resets (s : State) : (dropTurn s).resets = s.resets := rfl
@[simp] theorem dropTurn_engineId (s : State) : (dropTurn s).engineId = s.engineId := rfl

/-! ### `storePos` -/

@[simp] theorem storePos_pix (v : Word) (s : State) : (storePos v s).pix = s.pix := rfl
@[simp] theorem storePos_coef (v : Word) (s : State) : (storePos v s).coef = s.coef := rfl
@[simp] theorem storePos_ie (v : Word) (s : State) : (storePos v s).ie = s.ie := rfl
@[simp] theorem storePos_busy (v : Word) (s : State) : (storePos v s).busy = s.busy := rfl
@[simp] theorem storePos_done (v : Word) (s : State) : (storePos v s).done = s.done := rfl
@[simp] theorem storePos_clip (v : Word) (s : State) : (storePos v s).clip = s.clip := rfl
@[simp] theorem storePos_err (v : Word) (s : State) : (storePos v s).err = s.err := rfl
@[simp] theorem storePos_latch (v : Word) (s : State) : (storePos v s).latch = s.latch := rfl
@[simp] theorem storePos_posAU (v : Word) (s : State) : (storePos v s).posAU = v.extractLsb' 0 3 := rfl
@[simp] theorem storePos_posAV (v : Word) (s : State) : (storePos v s).posAV = v.extractLsb' 4 3 := rfl
@[simp] theorem storePos_posBU (v : Word) (s : State) : (storePos v s).posBU = v.extractLsb' 8 3 := rfl
@[simp] theorem storePos_posBV (v : Word) (s : State) : (storePos v s).posBV = v.extractLsb' 12 3 := rfl
@[simp] theorem storePos_stepReg (v : Word) (s : State) : (storePos v s).stepReg = s.stepReg := rfl
@[simp] theorem storePos_marginReg (v : Word) (s : State) : (storePos v s).marginReg = s.marginReg := rfl
@[simp] theorem storePos_resultBit (v : Word) (s : State) : (storePos v s).resultBit = s.resultBit := rfl
@[simp] theorem storePos_frameW (v : Word) (s : State) : (storePos v s).frameW = s.frameW := rfl
@[simp] theorem storePos_frameH (v : Word) (s : State) : (storePos v s).frameH = s.frameH := rfl
@[simp] theorem storePos_frameCnt (v : Word) (s : State) : (storePos v s).frameCnt = s.frameCnt := rfl
@[simp] theorem storePos_hdrW (v : Word) (s : State) : (storePos v s).hdrW = s.hdrW := rfl
@[simp] theorem storePos_kidx (v : Word) (s : State) : (storePos v s).kidx = s.kidx := rfl
@[simp] theorem storePos_curFrame (v : Word) (s : State) : (storePos v s).curFrame = s.curFrame := rfl
@[simp] theorem storePos_curBy (v : Word) (s : State) : (storePos v s).curBy = s.curBy := rfl
@[simp] theorem storePos_curBx (v : Word) (s : State) : (storePos v s).curBx = s.curBx := rfl
@[simp] theorem storePos_capBits (v : Word) (s : State) : (storePos v s).capBits = s.capBits := rfl
@[simp] theorem storePos_capBytes (v : Word) (s : State) : (storePos v s).capBytes = s.capBytes := rfl
@[simp] theorem storePos_script (v : Word) (s : State) : (storePos v s).script = s.script := rfl
@[simp] theorem storePos_reads (v : Word) (s : State) : (storePos v s).reads = s.reads := rfl
@[simp] theorem storePos_turns (v : Word) (s : State) : (storePos v s).turns = s.turns := rfl
@[simp] theorem storePos_tick (v : Word) (s : State) : (storePos v s).tick = s.tick := rfl
@[simp] theorem storePos_resets (v : Word) (s : State) : (storePos v s).resets = s.resets := rfl
@[simp] theorem storePos_engineId (v : Word) (s : State) : (storePos v s).engineId = s.engineId := rfl

/-! ### `putPixWord` -/

@[simp] theorem putPixWord_coef (w : Fin 16) (v : Word) (s : State) : (putPixWord w v s).coef = s.coef := rfl
@[simp] theorem putPixWord_ie (w : Fin 16) (v : Word) (s : State) : (putPixWord w v s).ie = s.ie := rfl
@[simp] theorem putPixWord_busy (w : Fin 16) (v : Word) (s : State) : (putPixWord w v s).busy = s.busy := rfl
@[simp] theorem putPixWord_done (w : Fin 16) (v : Word) (s : State) : (putPixWord w v s).done = s.done := rfl
@[simp] theorem putPixWord_clip (w : Fin 16) (v : Word) (s : State) : (putPixWord w v s).clip = s.clip := rfl
@[simp] theorem putPixWord_err (w : Fin 16) (v : Word) (s : State) : (putPixWord w v s).err = s.err := rfl
@[simp] theorem putPixWord_latch (w : Fin 16) (v : Word) (s : State) : (putPixWord w v s).latch = s.latch := rfl
@[simp] theorem putPixWord_posAU (w : Fin 16) (v : Word) (s : State) : (putPixWord w v s).posAU = s.posAU := rfl
@[simp] theorem putPixWord_posAV (w : Fin 16) (v : Word) (s : State) : (putPixWord w v s).posAV = s.posAV := rfl
@[simp] theorem putPixWord_posBU (w : Fin 16) (v : Word) (s : State) : (putPixWord w v s).posBU = s.posBU := rfl
@[simp] theorem putPixWord_posBV (w : Fin 16) (v : Word) (s : State) : (putPixWord w v s).posBV = s.posBV := rfl
@[simp] theorem putPixWord_stepReg (w : Fin 16) (v : Word) (s : State) : (putPixWord w v s).stepReg = s.stepReg := rfl
@[simp] theorem putPixWord_marginReg (w : Fin 16) (v : Word) (s : State) :
    (putPixWord w v s).marginReg = s.marginReg := rfl
@[simp] theorem putPixWord_resultBit (w : Fin 16) (v : Word) (s : State) :
    (putPixWord w v s).resultBit = s.resultBit := rfl
@[simp] theorem putPixWord_frameW (w : Fin 16) (v : Word) (s : State) : (putPixWord w v s).frameW = s.frameW := rfl
@[simp] theorem putPixWord_frameH (w : Fin 16) (v : Word) (s : State) : (putPixWord w v s).frameH = s.frameH := rfl
@[simp] theorem putPixWord_frameCnt (w : Fin 16) (v : Word) (s : State) :
    (putPixWord w v s).frameCnt = s.frameCnt := rfl
@[simp] theorem putPixWord_hdrW (w : Fin 16) (v : Word) (s : State) : (putPixWord w v s).hdrW = s.hdrW := rfl
@[simp] theorem putPixWord_kidx (w : Fin 16) (v : Word) (s : State) : (putPixWord w v s).kidx = s.kidx := rfl
@[simp] theorem putPixWord_curFrame (w : Fin 16) (v : Word) (s : State) :
    (putPixWord w v s).curFrame = s.curFrame := rfl
@[simp] theorem putPixWord_curBy (w : Fin 16) (v : Word) (s : State) : (putPixWord w v s).curBy = s.curBy := rfl
@[simp] theorem putPixWord_curBx (w : Fin 16) (v : Word) (s : State) : (putPixWord w v s).curBx = s.curBx := rfl
@[simp] theorem putPixWord_capBits (w : Fin 16) (v : Word) (s : State) : (putPixWord w v s).capBits = s.capBits := rfl
@[simp] theorem putPixWord_capBytes (w : Fin 16) (v : Word) (s : State) :
    (putPixWord w v s).capBytes = s.capBytes := rfl
@[simp] theorem putPixWord_script (w : Fin 16) (v : Word) (s : State) : (putPixWord w v s).script = s.script := rfl
@[simp] theorem putPixWord_reads (w : Fin 16) (v : Word) (s : State) : (putPixWord w v s).reads = s.reads := rfl
@[simp] theorem putPixWord_turns (w : Fin 16) (v : Word) (s : State) : (putPixWord w v s).turns = s.turns := rfl
@[simp] theorem putPixWord_tick (w : Fin 16) (v : Word) (s : State) : (putPixWord w v s).tick = s.tick := rfl
@[simp] theorem putPixWord_resets (w : Fin 16) (v : Word) (s : State) : (putPixWord w v s).resets = s.resets := rfl
@[simp] theorem putPixWord_engineId (w : Fin 16) (v : Word) (s : State) : (putPixWord w v s).engineId = s.engineId := rfl

/-! ### `putCoefWord` -/

@[simp] theorem putCoefWord_pix (w : Fin 32) (v : Word) (s : State) : (putCoefWord w v s).pix = s.pix := rfl
@[simp] theorem putCoefWord_ie (w : Fin 32) (v : Word) (s : State) : (putCoefWord w v s).ie = s.ie := rfl
@[simp] theorem putCoefWord_busy (w : Fin 32) (v : Word) (s : State) : (putCoefWord w v s).busy = s.busy := rfl
@[simp] theorem putCoefWord_done (w : Fin 32) (v : Word) (s : State) : (putCoefWord w v s).done = s.done := rfl
@[simp] theorem putCoefWord_clip (w : Fin 32) (v : Word) (s : State) : (putCoefWord w v s).clip = s.clip := rfl
@[simp] theorem putCoefWord_err (w : Fin 32) (v : Word) (s : State) : (putCoefWord w v s).err = s.err := rfl
@[simp] theorem putCoefWord_latch (w : Fin 32) (v : Word) (s : State) : (putCoefWord w v s).latch = s.latch := rfl
@[simp] theorem putCoefWord_posAU (w : Fin 32) (v : Word) (s : State) : (putCoefWord w v s).posAU = s.posAU := rfl
@[simp] theorem putCoefWord_posAV (w : Fin 32) (v : Word) (s : State) : (putCoefWord w v s).posAV = s.posAV := rfl
@[simp] theorem putCoefWord_posBU (w : Fin 32) (v : Word) (s : State) : (putCoefWord w v s).posBU = s.posBU := rfl
@[simp] theorem putCoefWord_posBV (w : Fin 32) (v : Word) (s : State) : (putCoefWord w v s).posBV = s.posBV := rfl
@[simp] theorem putCoefWord_stepReg (w : Fin 32) (v : Word) (s : State) :
    (putCoefWord w v s).stepReg = s.stepReg := rfl
@[simp] theorem putCoefWord_marginReg (w : Fin 32) (v : Word) (s : State) :
    (putCoefWord w v s).marginReg = s.marginReg := rfl
@[simp] theorem putCoefWord_resultBit (w : Fin 32) (v : Word) (s : State) :
    (putCoefWord w v s).resultBit = s.resultBit := rfl
@[simp] theorem putCoefWord_frameW (w : Fin 32) (v : Word) (s : State) : (putCoefWord w v s).frameW = s.frameW := rfl
@[simp] theorem putCoefWord_frameH (w : Fin 32) (v : Word) (s : State) : (putCoefWord w v s).frameH = s.frameH := rfl
@[simp] theorem putCoefWord_frameCnt (w : Fin 32) (v : Word) (s : State) :
    (putCoefWord w v s).frameCnt = s.frameCnt := rfl
@[simp] theorem putCoefWord_hdrW (w : Fin 32) (v : Word) (s : State) : (putCoefWord w v s).hdrW = s.hdrW := rfl
@[simp] theorem putCoefWord_kidx (w : Fin 32) (v : Word) (s : State) : (putCoefWord w v s).kidx = s.kidx := rfl
@[simp] theorem putCoefWord_curFrame (w : Fin 32) (v : Word) (s : State) :
    (putCoefWord w v s).curFrame = s.curFrame := rfl
@[simp] theorem putCoefWord_curBy (w : Fin 32) (v : Word) (s : State) : (putCoefWord w v s).curBy = s.curBy := rfl
@[simp] theorem putCoefWord_curBx (w : Fin 32) (v : Word) (s : State) : (putCoefWord w v s).curBx = s.curBx := rfl
@[simp] theorem putCoefWord_capBits (w : Fin 32) (v : Word) (s : State) :
    (putCoefWord w v s).capBits = s.capBits := rfl
@[simp] theorem putCoefWord_capBytes (w : Fin 32) (v : Word) (s : State) :
    (putCoefWord w v s).capBytes = s.capBytes := rfl
@[simp] theorem putCoefWord_script (w : Fin 32) (v : Word) (s : State) : (putCoefWord w v s).script = s.script := rfl
@[simp] theorem putCoefWord_reads (w : Fin 32) (v : Word) (s : State) : (putCoefWord w v s).reads = s.reads := rfl
@[simp] theorem putCoefWord_turns (w : Fin 32) (v : Word) (s : State) : (putCoefWord w v s).turns = s.turns := rfl
@[simp] theorem putCoefWord_tick (w : Fin 32) (v : Word) (s : State) : (putCoefWord w v s).tick = s.tick := rfl
@[simp] theorem putCoefWord_resets (w : Fin 32) (v : Word) (s : State) : (putCoefWord w v s).resets = s.resets := rfl
@[simp] theorem putCoefWord_engineId (w : Fin 32) (v : Word) (s : State) : (putCoefWord w v s).engineId = s.engineId := rfl

/-! ### `storePair` -/

@[simp] theorem storePair_pix (s : State) (a' b' : Int) : (storePair s a' b').pix = s.pix := rfl
@[simp] theorem storePair_ie (s : State) (a' b' : Int) : (storePair s a' b').ie = s.ie := rfl
@[simp] theorem storePair_busy (s : State) (a' b' : Int) : (storePair s a' b').busy = s.busy := rfl
@[simp] theorem storePair_done (s : State) (a' b' : Int) : (storePair s a' b').done = s.done := rfl
@[simp] theorem storePair_clip (s : State) (a' b' : Int) : (storePair s a' b').clip = s.clip := rfl
@[simp] theorem storePair_err (s : State) (a' b' : Int) : (storePair s a' b').err = s.err := rfl
@[simp] theorem storePair_latch (s : State) (a' b' : Int) : (storePair s a' b').latch = s.latch := rfl
@[simp] theorem storePair_posAU (s : State) (a' b' : Int) : (storePair s a' b').posAU = s.posAU := rfl
@[simp] theorem storePair_posAV (s : State) (a' b' : Int) : (storePair s a' b').posAV = s.posAV := rfl
@[simp] theorem storePair_posBU (s : State) (a' b' : Int) : (storePair s a' b').posBU = s.posBU := rfl
@[simp] theorem storePair_posBV (s : State) (a' b' : Int) : (storePair s a' b').posBV = s.posBV := rfl
@[simp] theorem storePair_stepReg (s : State) (a' b' : Int) : (storePair s a' b').stepReg = s.stepReg := rfl
@[simp] theorem storePair_marginReg (s : State) (a' b' : Int) : (storePair s a' b').marginReg = s.marginReg := rfl
@[simp] theorem storePair_resultBit (s : State) (a' b' : Int) : (storePair s a' b').resultBit = s.resultBit := rfl
@[simp] theorem storePair_frameW (s : State) (a' b' : Int) : (storePair s a' b').frameW = s.frameW := rfl
@[simp] theorem storePair_frameH (s : State) (a' b' : Int) : (storePair s a' b').frameH = s.frameH := rfl
@[simp] theorem storePair_frameCnt (s : State) (a' b' : Int) : (storePair s a' b').frameCnt = s.frameCnt := rfl
@[simp] theorem storePair_hdrW (s : State) (a' b' : Int) : (storePair s a' b').hdrW = s.hdrW := rfl
@[simp] theorem storePair_kidx (s : State) (a' b' : Int) : (storePair s a' b').kidx = s.kidx := rfl
@[simp] theorem storePair_curFrame (s : State) (a' b' : Int) : (storePair s a' b').curFrame = s.curFrame := rfl
@[simp] theorem storePair_curBy (s : State) (a' b' : Int) : (storePair s a' b').curBy = s.curBy := rfl
@[simp] theorem storePair_curBx (s : State) (a' b' : Int) : (storePair s a' b').curBx = s.curBx := rfl
@[simp] theorem storePair_capBits (s : State) (a' b' : Int) : (storePair s a' b').capBits = s.capBits := rfl
@[simp] theorem storePair_capBytes (s : State) (a' b' : Int) : (storePair s a' b').capBytes = s.capBytes := rfl
@[simp] theorem storePair_script (s : State) (a' b' : Int) : (storePair s a' b').script = s.script := rfl
@[simp] theorem storePair_reads (s : State) (a' b' : Int) : (storePair s a' b').reads = s.reads := rfl
@[simp] theorem storePair_turns (s : State) (a' b' : Int) : (storePair s a' b').turns = s.turns := rfl
@[simp] theorem storePair_tick (s : State) (a' b' : Int) : (storePair s a' b').tick = s.tick := rfl
@[simp] theorem storePair_resets (s : State) (a' b' : Int) : (storePair s a' b').resets = s.resets := rfl
@[simp] theorem storePair_engineId (s : State) (a' b' : Int) : (storePair s a' b').engineId = s.engineId := rfl

/-! ### `storeEmbeddedBlock` -/

@[simp] theorem storeEmbeddedBlock_pix (s : State) (y : Matrix) :
    (storeEmbeddedBlock s y).pix = clippedPix (idct y) := rfl
@[simp] theorem storeEmbeddedBlock_coef (s : State) (y : Matrix) : (storeEmbeddedBlock s y).coef = storedCoef y := rfl
@[simp] theorem storeEmbeddedBlock_ie (s : State) (y : Matrix) : (storeEmbeddedBlock s y).ie = s.ie := rfl
@[simp] theorem storeEmbeddedBlock_busy (s : State) (y : Matrix) : (storeEmbeddedBlock s y).busy = s.busy := rfl
@[simp] theorem storeEmbeddedBlock_done (s : State) (y : Matrix) : (storeEmbeddedBlock s y).done = s.done := rfl
@[simp] theorem storeEmbeddedBlock_clip (s : State) (y : Matrix) :
    (storeEmbeddedBlock s y).clip = isClipped (idct y) := rfl
@[simp] theorem storeEmbeddedBlock_err (s : State) (y : Matrix) : (storeEmbeddedBlock s y).err = s.err := rfl
@[simp] theorem storeEmbeddedBlock_latch (s : State) (y : Matrix) : (storeEmbeddedBlock s y).latch = s.latch := rfl
@[simp] theorem storeEmbeddedBlock_posAU (s : State) (y : Matrix) : (storeEmbeddedBlock s y).posAU = s.posAU := rfl
@[simp] theorem storeEmbeddedBlock_posAV (s : State) (y : Matrix) : (storeEmbeddedBlock s y).posAV = s.posAV := rfl
@[simp] theorem storeEmbeddedBlock_posBU (s : State) (y : Matrix) : (storeEmbeddedBlock s y).posBU = s.posBU := rfl
@[simp] theorem storeEmbeddedBlock_posBV (s : State) (y : Matrix) : (storeEmbeddedBlock s y).posBV = s.posBV := rfl
@[simp] theorem storeEmbeddedBlock_stepReg (s : State) (y : Matrix) :
    (storeEmbeddedBlock s y).stepReg = s.stepReg := rfl
@[simp] theorem storeEmbeddedBlock_marginReg (s : State) (y : Matrix) :
    (storeEmbeddedBlock s y).marginReg = s.marginReg := rfl
@[simp] theorem storeEmbeddedBlock_resultBit (s : State) (y : Matrix) :
    (storeEmbeddedBlock s y).resultBit = s.resultBit := rfl
@[simp] theorem storeEmbeddedBlock_frameW (s : State) (y : Matrix) : (storeEmbeddedBlock s y).frameW = s.frameW := rfl
@[simp] theorem storeEmbeddedBlock_frameH (s : State) (y : Matrix) : (storeEmbeddedBlock s y).frameH = s.frameH := rfl
@[simp] theorem storeEmbeddedBlock_frameCnt (s : State) (y : Matrix) :
    (storeEmbeddedBlock s y).frameCnt = s.frameCnt := rfl
@[simp] theorem storeEmbeddedBlock_hdrW (s : State) (y : Matrix) : (storeEmbeddedBlock s y).hdrW = s.hdrW := rfl
@[simp] theorem storeEmbeddedBlock_kidx (s : State) (y : Matrix) : (storeEmbeddedBlock s y).kidx = s.kidx := rfl
@[simp] theorem storeEmbeddedBlock_curFrame (s : State) (y : Matrix) :
    (storeEmbeddedBlock s y).curFrame = s.curFrame := rfl
@[simp] theorem storeEmbeddedBlock_curBy (s : State) (y : Matrix) : (storeEmbeddedBlock s y).curBy = s.curBy := rfl
@[simp] theorem storeEmbeddedBlock_curBx (s : State) (y : Matrix) : (storeEmbeddedBlock s y).curBx = s.curBx := rfl
@[simp] theorem storeEmbeddedBlock_capBits (s : State) (y : Matrix) :
    (storeEmbeddedBlock s y).capBits = s.capBits := rfl
@[simp] theorem storeEmbeddedBlock_capBytes (s : State) (y : Matrix) :
    (storeEmbeddedBlock s y).capBytes = s.capBytes := rfl
@[simp] theorem storeEmbeddedBlock_script (s : State) (y : Matrix) : (storeEmbeddedBlock s y).script = s.script := rfl
@[simp] theorem storeEmbeddedBlock_reads (s : State) (y : Matrix) : (storeEmbeddedBlock s y).reads = s.reads := rfl
@[simp] theorem storeEmbeddedBlock_turns (s : State) (y : Matrix) : (storeEmbeddedBlock s y).turns = s.turns := rfl
@[simp] theorem storeEmbeddedBlock_tick (s : State) (y : Matrix) : (storeEmbeddedBlock s y).tick = s.tick := rfl
@[simp] theorem storeEmbeddedBlock_resets (s : State) (y : Matrix) : (storeEmbeddedBlock s y).resets = s.resets := rfl
@[simp] theorem storeEmbeddedBlock_engineId (s : State) (y : Matrix) : (storeEmbeddedBlock s y).engineId = s.engineId := rfl

/-! ### The fields the window writes and the pair write change -/

@[simp] theorem putPixWord_pix (w : Fin 16) (v : Word) (s : State) :
    (putPixWord w v s).pix = pixWithWord w v s.pix := rfl
@[simp] theorem putCoefWord_coef (w : Fin 32) (v : Word) (s : State) :
    (putCoefWord w v s).coef = coefWithWord w v s.coef := rfl
@[simp] theorem storePair_coef (s : State) (a' b' : Int) :
    (storePair s a' b').coef = coefWithPair (elt (ua s) (va s)) (elt (ub s) (vb s)) a' b' s.coef := rfl

/-! ### `assertReset` -/

@[simp] theorem assertReset_pix (s : State) : (assertReset s).pix = State.reset.pix := rfl
@[simp] theorem assertReset_coef (s : State) : (assertReset s).coef = State.reset.coef := rfl
@[simp] theorem assertReset_ie (s : State) : (assertReset s).ie = State.reset.ie := rfl
@[simp] theorem assertReset_busy (s : State) : (assertReset s).busy = State.reset.busy := rfl
@[simp] theorem assertReset_done (s : State) : (assertReset s).done = State.reset.done := rfl
@[simp] theorem assertReset_clip (s : State) : (assertReset s).clip = State.reset.clip := rfl
@[simp] theorem assertReset_err (s : State) : (assertReset s).err = State.reset.err := rfl
@[simp] theorem assertReset_latch (s : State) : (assertReset s).latch = State.reset.latch := rfl
@[simp] theorem assertReset_posAU (s : State) : (assertReset s).posAU = State.reset.posAU := rfl
@[simp] theorem assertReset_posAV (s : State) : (assertReset s).posAV = State.reset.posAV := rfl
@[simp] theorem assertReset_posBU (s : State) : (assertReset s).posBU = State.reset.posBU := rfl
@[simp] theorem assertReset_posBV (s : State) : (assertReset s).posBV = State.reset.posBV := rfl
@[simp] theorem assertReset_stepReg (s : State) : (assertReset s).stepReg = State.reset.stepReg := rfl
@[simp] theorem assertReset_marginReg (s : State) : (assertReset s).marginReg = State.reset.marginReg := rfl
@[simp] theorem assertReset_resultBit (s : State) : (assertReset s).resultBit = State.reset.resultBit := rfl
@[simp] theorem assertReset_frameW (s : State) : (assertReset s).frameW = State.reset.frameW := rfl
@[simp] theorem assertReset_frameH (s : State) : (assertReset s).frameH = State.reset.frameH := rfl
@[simp] theorem assertReset_frameCnt (s : State) : (assertReset s).frameCnt = State.reset.frameCnt := rfl
@[simp] theorem assertReset_hdrW (s : State) : (assertReset s).hdrW = State.reset.hdrW := rfl
@[simp] theorem assertReset_kidx (s : State) : (assertReset s).kidx = State.reset.kidx := rfl
@[simp] theorem assertReset_curFrame (s : State) : (assertReset s).curFrame = State.reset.curFrame := rfl
@[simp] theorem assertReset_curBy (s : State) : (assertReset s).curBy = State.reset.curBy := rfl
@[simp] theorem assertReset_curBx (s : State) : (assertReset s).curBx = State.reset.curBx := rfl
@[simp] theorem assertReset_capBits (s : State) : (assertReset s).capBits = State.reset.capBits := rfl
@[simp] theorem assertReset_capBytes (s : State) : (assertReset s).capBytes = State.reset.capBytes := rfl
@[simp] theorem assertReset_script (s : State) : (assertReset s).script = s.script := rfl
@[simp] theorem assertReset_reads (s : State) : (assertReset s).reads = s.reads := rfl
@[simp] theorem assertReset_turns (s : State) : (assertReset s).turns = s.turns := rfl
@[simp] theorem assertReset_engineId (s : State) : (assertReset s).engineId = s.engineId := rfl
@[simp] theorem assertReset_tick (s : State) : (assertReset s).tick = s.tick + 1 := rfl
@[simp] theorem assertReset_resets (s : State) : (assertReset s).resets = s.resets + 1 := rfl

/-! ### `resetEngine` -/

/-- Engine `k` after reset is the reset state with its number (log entry 13). -/
theorem resetEngine_eq (k : Nat) : resetEngine k = { State.reset with engineId := k } := rfl
@[simp] theorem resetEngine_engineId (k : Nat) : (resetEngine k).engineId = k := rfl
@[simp] theorem irq_resetEngine (k : Nat) : irq (resetEngine k) = false := rfl

end Sys2Proof.Machine
end

