-- ==== Sys2Proof/Laws/Ops.lean ====
section
/-! SUPPORT. Laws/Ops.lean: one lemma per shared operation that says once what it can do; later proofs cite these and
do not unfold the operations. -/

namespace Sys2Proof.Machine

/-! ### Element indices and buffers -/

@[simp] theorem rowOf_elt (i j : Fin 8) : rowOf (elt i j) = i := by ext; simp [rowOf, elt]; omega

@[simp] theorem colOf_elt (i j : Fin 8) : colOf (elt i j) = j := by ext; simp [colOf, elt]

@[simp] theorem elt_rowOf_colOf (e : Fin 64) : elt (rowOf e) (colOf e) = e := by
  ext; simp [rowOf, colOf, elt]; omega

theorem elt_eq_iff (i j k l : Fin 8) : elt i j = elt k l ↔ i = k ∧ j = l :=
  ⟨fun h => ⟨by simpa using congrArg rowOf h, by simpa using congrArg colOf h⟩, by rintro ⟨rfl, rfl⟩; rfl⟩

/-- A tabulated buffer holds `f i j` at row `i`, column `j`. -/
@[simp] theorem tabulate_getElem {α : Type} (f : Fin 8 → Fin 8 → α) (e : Nat) (h : e < 64) :
    (tabulate f)[e] = f (rowOf ⟨e, h⟩) (colOf ⟨e, h⟩) := by
  unfold tabulate; simp

/-- Two buffers with the same elements are equal. -/
theorem block_ext {α : Type} {p q : Block α} (h : ∀ e : Fin 64, p[e] = q[e]) : p = q := by
  apply Vector.ext
  intro i hi
  exact h ⟨i, hi⟩

/-- What `PIX` holds after a window write, element by element (R49). -/
@[simp] theorem pixWithWord_getElem (w : Fin 16) (v : Word) (ps : Block (Option Sample)) (e : Nat) (h : e < 64) :
    (pixWithWord w v ps)[e] = if e / 4 = w.val then some (v.extractLsb' (8 * (e % 4)) 8) else ps[e] := by
  unfold pixWithWord; simp

/-- What `COEF` holds after a window write, element by element (R50). -/
@[simp] theorem coefWithWord_getElem (w : Fin 32) (x : Word) (cs : Block (Option Coeff)) (e : Nat) (h : e < 64) :
    (coefWithWord w x cs)[e] = if e / 2 = w.val then some (x.extractLsb' (16 * (e % 2)) 16) else cs[e] := by
  unfold coefWithWord; simp

/-- What `COEF` holds after the pair write, element by element (R89). -/
@[simp] theorem coefWithPair_getElem (ea eb : Fin 64) (a' b' : Int) (cs : Block (Option Coeff)) (e : Nat)
    (h : e < 64) :
    (coefWithPair ea eb a' b' cs)[e] =
      if e = eb.val then some (s16 b') else if e = ea.val then some (s16 a') else cs[e] := by
  unfold coefWithPair
  simp only [Vector.getElem_set, eq_comm]

/-! ### Arithmetic -/

theorem sum8_eq_sum (f : Fin 8 → Int) : sum8 f = ∑ i, f i := by
  simp [sum8, Fin.sum_univ_eight]

/-- A value in the range of a raw coefficient survives being stored (R8, R24). -/
theorem toInt_s16 {v : Int} (h : inS16 v = true) : (s16 v).toInt = v := by
  simp only [inS16, Bool.and_eq_true, decide_eq_true_eq] at h
  simp only [s16, BitVec.toInt_ofInt, Int.bmod_def]
  omega

/-- `clamp(p, 0, 255)` fits a sample. -/
theorem toNat_clamp (p : Int) : ((BitVec.ofInt 8 (clamp p 0 255)).toNat : Int) = min 255 (max 0 p) := by
  simp only [clamp, BitVec.toNat_ofInt]
  omega

/-- The clipped flag says that some sample is out of range (R79). -/
theorem isClipped_iff (p : Matrix) : isClipped p = true ↔ ∃ i j, p i j < 0 ∨ p i j > 255 := by
  unfold isClipped
  simp [allIndices, outOfRange]

/-! ### Ending a command -/

/-- Everything a command's engine step can do: end with an error, or complete after writing some of the buffers, `CLIP`
and the result registers (R111). -/
theorem exec_cases (i : Instr) (s : State) :
    (∃ c, exec i s = .next (raiseErr c s)) ∨
    (∃ p c k r f y x b n, exec i s = .next (complete { s with
      pix := p, coef := c, clip := k, resultBit := r, curFrame := f, curBy := y, curBx := x
      capBits := b, capBytes := n })) := by
  cases i with
  | nop => exact .inr ⟨s.pix, s.coef, s.clip, s.resultBit, s.curFrame, s.curBy, s.curBx, s.capBits, s.capBytes, rfl⟩
  | fdct => exact .inr ⟨s.pix, _, s.clip, s.resultBit, s.curFrame, s.curBy, s.curBx, s.capBits, s.capBytes, rfl⟩
  | idct => exact .inr ⟨_, s.coef, _, s.resultBit, s.curFrame, s.curBy, s.curBx, s.capBits, s.capBytes, rfl⟩
  | capacity => exact .inr ⟨s.pix, s.coef, s.clip, s.resultBit, s.curFrame, s.curBy, s.curBx, _, _, rfl⟩
  | cursor =>
    simp only [exec, execCursor]
    split
    · exact .inl ⟨_, rfl⟩
    · exact .inr ⟨s.pix, s.coef, s.clip, s.resultBit, _, _, _, s.capBits, s.capBytes, rfl⟩
  | extract =>
    simp only [exec, execExtract]
    split
    · exact .inl ⟨_, rfl⟩
    · exact .inr ⟨s.pix, s.coef, s.clip, _, s.curFrame, s.curBy, s.curBx, s.capBits, s.capBytes, rfl⟩
  | extractBlock =>
    simp only [exec, execExtractBlock]
    split
    · exact .inl ⟨_, rfl⟩
    · exact .inr ⟨s.pix, _, s.clip, _, s.curFrame, s.curBy, s.curBx, s.capBits, s.capBytes, rfl⟩
  | embed b =>
    simp only [exec, execEmbed]
    split
    · exact .inl ⟨_, rfl⟩
    · split
      · exact .inl ⟨_, rfl⟩
      · exact .inr ⟨s.pix, _, s.clip, s.resultBit, s.curFrame, s.curBy, s.curBx, s.capBits, s.capBytes, rfl⟩
  | embedBlock b =>
    simp only [exec, execEmbedBlock]
    split
    · exact .inl ⟨_, rfl⟩
    · split
      · exact .inl ⟨_, rfl⟩
      · exact .inr ⟨_, _, _, s.resultBit, s.curFrame, s.curBy, s.curBx, s.capBits, s.capBytes, rfl⟩

/-! ### The window -/

/-- Every register stands at its offset (R47). -/
theorem locOf_offsetOf (r : Reg) : locOf (offsetOf r) = .reg r := by cases r <;> decide

/-- The `PIX` window stands at `0x100..0x13F` (R47, R49). -/
theorem locOf_pix (w : Fin 16) : locOf (BitVec.ofNat 12 (0x100 + 4 * w.val)) = .pix w := by
  revert w; decide

/-- The `COEF` window stands at `0x200..0x27F` (R47, R50). -/
theorem locOf_coef (w : Fin 32) : locOf (BitVec.ofNat 12 (0x200 + 4 * w.val)) = .coef w := by
  revert w; decide

/-- A write at an offset that names a register writes that register. -/
theorem busWrite_reg {off : Offset} {r : Reg} (h : locOf off = .reg r) (v : Word) (s : State) :
    busWrite off v s = writeReg v s r := by rw [busWrite, h]

/-- A write to a protected place while busy only raises `ERR(BUSY)` (R113). -/
theorem writeProtected_whileBusy {s : State} (h : s.busy = true) (store : State → State) :
    writeProtected store s = setErr .busy s := by simp [writeProtected, h]

/-- A write to a protected place while idle stores. -/
theorem writeProtected_whileIdle {s : State} (h : s.busy = false) (store : State → State) :
    writeProtected store s = store s := by simp [writeProtected, h]

/-- While busy a bus write can change only `CTRL.IE`, `DONE` and `ERR` (R55). -/
theorem busWrite_whileBusy {s : State} (h : s.busy = true) (off : Offset) (v : Word) :
    ∃ ie done err, busWrite off v s = { s with ie := ie, done := done, err := err } := by
  have keep : ∃ ie done err, s = { s with ie := ie, done := done, err := err } := ⟨s.ie, s.done, s.err, rfl⟩
  have busyErr : ∃ ie done err, setErr .busy s = { s with ie := ie, done := done, err := err } :=
    ⟨s.ie, s.done, _, rfl⟩
  have dropped := writeProtected_whileBusy h
  unfold busWrite
  split
  · rename_i r _
    cases r
    case ctrl => exact ⟨_, s.done, s.err, rfl⟩
    case status => exact ⟨s.ie, _, _, rfl⟩
    case cmd => rw [show writeReg v s .cmd = setErr .busy s by simp [writeReg, writeCmd, h]]; exact busyErr
    all_goals first
      | exact keep
      | (rw [writeReg, dropped]; exact busyErr)
  · rw [dropped]; exact busyErr
  · rw [dropped]; exact busyErr
  · exact keep

/-! ### The turns -/

/-- Everything a host turn can do (R20, R52, R69): nothing, one read, one write, one poll of `WAIT`, or a bus error. -/
theorem hostTurn_cases (s : State) :
    (s.script = [] ∧ hostTurn s = .next s) ∨
    (∃ off rest, s.script = .rd 32 off :: rest ∧ off.toNat % 4 = 0 ∧
      hostTurn s = .next { s with script := rest, reads := busRead s off :: s.reads }) ∨
    (∃ off v rest, s.script = .wr 32 off v :: rest ∧ off.toNat % 4 = 0 ∧
      hostTurn s = .next { busWrite off v s with script := rest, tick := s.tick + 1 }) ∨
    (∃ rest, s.script = .wait :: rest ∧
      hostTurn s = .next { s with
        script := if (statusWord s).getLsbD 0 then s.script else rest, reads := statusWord s :: s.reads }) ∨
    (∃ op rest, s.script = op :: rest ∧ op.wellFormed = false ∧ hostTurn s = .fault .busError) := by
  unfold hostTurn
  split
  · exact .inl ⟨‹_›, rfl⟩
  · rename_i bits off rest h
    split
    · rename_i hb
      refine .inr (.inr (.inr (.inr ⟨_, _, h, ?_, rfl⟩)))
      simp [busErrorAt] at hb
      simp [HostOp.wellFormed]
      omega
    · rename_i hb
      simp [busErrorAt] at hb
      obtain ⟨rfl, hb⟩ := hb
      exact .inr (.inl ⟨off, rest, h, hb, rfl⟩)
  · rename_i bits off v rest h
    split
    · rename_i hb
      refine .inr (.inr (.inr (.inr ⟨_, _, h, ?_, rfl⟩)))
      simp [busErrorAt] at hb
      simp [HostOp.wellFormed]
      omega
    · rename_i hb
      simp [busErrorAt] at hb
      obtain ⟨rfl, hb⟩ := hb
      exact .inr (.inr (.inl ⟨off, v, rest, h, hb, rfl⟩))
  · rename_i rest h
    exact .inr (.inr (.inr (.inl ⟨rest, h, rfl⟩)))

/-- A host with no transaction left does nothing. -/
theorem hostTurn_nil {s : State} (h : s.script = []) : hostTurn s = .next s := by
  rw [hostTurn, h]

/-- An idle engine's turn does nothing (R130). -/
theorem engineTurn_idle {s : State} (h : s.busy = false) : engineTurn s = .next s := by
  simp [engineTurn, h]

/-- A busy engine's turn executes the latched command (R29, R53). -/
theorem engineTurn_busy {s : State} {w : Word} {i : Instr} (hb : s.busy = true) (hl : s.latch = some w)
    (hd : decode w = .cmd i) : engineTurn s = countStep (exec i s) := by
  simp [engineTurn, hb, hl, hd]

/-- The step is the turn of the agent whose turn it is. -/
theorem step_eq (s : State) : step s = takeTurn (nextTurn s) (dropTurn s) := rfl

/-! ### Several engines -/

/-- An address of a window decodes to its offset (R47, R107). -/
theorem windowOffset_base_add (base : Nat) (off : Offset) : windowOffset base (base + off.toNat) = some off := by
  have h := off.isLt
  simp only [windowOffset]
  rw [if_pos (by omega)]
  congr 1
  apply BitVec.eq_of_toNat_eq
  simp

end Sys2Proof.Machine
end

