-- ==== Sys2Proof/Laws/PerInstr.lean ====
section
/-! SUPPORT. Laws/PerInstr.lean: the family `EncodedFields`: the word of a command holds its opcode in bits 7:0, its bit
operand in bit 8 and 0 in bits 31:9 (R61 to R64). -/

namespace Sys2Proof.Laws.EncodedFields

/-- The three fields of the encoded word. -/
def Statement (i : Instr) : Prop :=
  opcOf (encode i) = opcodeOf i ∧ bOf (encode i) = bitFieldOf i ∧ rsvOf (encode i) = 0

theorem nop : Statement .nop := by unfold Statement; decide
theorem fdct : Statement .fdct := by unfold Statement; decide
theorem idct : Statement .idct := by unfold Statement; decide
theorem embed (b : BitVec 1) : Statement (.embed b) := by unfold Statement; revert b; decide
theorem extract : Statement .extract := by unfold Statement; decide
theorem embedBlock (b : BitVec 1) : Statement (.embedBlock b) := by unfold Statement; revert b; decide
theorem extractBlock : Statement .extractBlock := by unfold Statement; decide
theorem cursor : Statement .cursor := by unfold Statement; decide
theorem capacity : Statement .capacity := by unfold Statement; decide

end Sys2Proof.Laws.EncodedFields
end

