-- ==== Sys2Proof/Laws/Step.lean ====
section
/-! SUPPORT. Laws/Step.lean: a run taken one step apart, when `WAIT` goes on, and what no step changes. -/

namespace Sys2Proof.Machine

/-- A run of `k + 1` steps is one step and then a run of `k`. -/
theorem run_succ (k : Nat) {s t : State} (h : step s = .next t) :
    Host.Core.run Sys2Proof.core (k + 1) s = Host.Core.run Sys2Proof.core k t := by
  have h' : Sys2Proof.core.step s = .next t := h
  simp only [Host.Core.run, h']

/-- A run of no step is where it starts. -/
theorem run_zero (s : State) : Host.Core.run Sys2Proof.core 0 s = .next s := rfl

/-- Bit 0 of the `STATUS` word is `BUSY` (R29). -/
theorem statusWord_busy (s : State) : (statusWord s).getLsbD 0 = s.busy := by
  unfold statusWord; simp only [BitVec.getLsbD_append]; cases s.busy <;> simp

/-- An error raised while `ERR` is anything leaves it not 0 (R117). -/
theorem setErr_err_ne {c : ErrCode} (hc : c ≠ .noError) (s : State) : (setErr c s).err ≠ .noError := by
  rw [setErr_err]; split <;> assumption

/-- A bus write leaves the engine the one it is. -/
@[simp] theorem busWrite_engineId (off : Offset) (v : Word) (s : State) : (busWrite off v s).engineId = s.engineId := by
  have kept (store : State → State) (h : (store s).engineId = s.engineId) :
      (writeProtected store s).engineId = s.engineId := by unfold writeProtected; split <;> simp [h]
  unfold busWrite
  split
  · rename_i r _
    cases r
    case cmd => simp only [writeReg, writeCmd]; split <;> [simp; (split <;> simp)]
    all_goals first
      | rfl
      | exact kept _ rfl
  · exact kept _ rfl
  · exact kept _ rfl
  · rfl

/-- A command leaves the engine the one it is. -/
theorem exec_engineId {i : Instr} {s t : State} (h : exec i s = .next t) : t.engineId = s.engineId := by
  obtain ⟨c, hc⟩ | ⟨_, _, _, _, _, _, _, _, _, hc⟩ := exec_cases i s <;>
    rw [hc, Host.Outcome.next.injEq] at h <;> subst h <;> rfl

/-- No step changes which engine this is (log entry 13). -/
theorem step_engineId {s t : State} (h : step s = .next t) : t.engineId = s.engineId := by
  rw [step_eq] at h
  change _ = (dropTurn s).engineId
  revert h
  generalize dropTurn s = u
  intro h
  cases hn : nextTurn s with
  | host =>
    rw [hn] at h
    obtain ⟨_, e⟩ | ⟨_, _, _, _, e⟩ | ⟨_, _, _, _, _, e⟩ | ⟨_, _, e⟩ | ⟨_, _, _, _, e⟩ := hostTurn_cases u <;>
      rw [takeTurn, e] at h <;> cases h <;> simp
  | engine =>
    rw [hn, takeTurn] at h
    unfold engineTurn at h
    split at h
    · split at h
      · cases h
      · split at h
        · cases h
        · rename_i i _
          revert h
          cases he : exec i u with
          | next v => intro h; cases h; exact exec_engineId (t := v) he
          | fault _ => intro h; cases h
          | refused _ => intro h; cases h
    · cases h; rfl
  | reset => rw [hn] at h; cases h; rfl

end Sys2Proof.Machine
end

