-- ==== Sys2Proof/Tests/Slice0.lean ====
section
/-! SUPPORT. Tests/Slice0.lean: decode tests from words written out of R61 and R64, ill-formed terms that are refused,
at most two tests per command from spec/95_test_vectors.md, bus tests, and for every obligation with hypotheses a
witness that meets them. -/

namespace Sys2Proof.Tests

open Sys2Proof Sys2Proof.Machine

/-! ## Helpers -/

/-- The state a command's engine step leaves. -/
def after (i : Instr) (s : State) : State :=
  match exec i s with
  | .next t => t
  | .fault _ | .refused _ => s

/-- The state one step leaves. -/
def stepped (s : State) : State :=
  match step s with
  | .next t => t
  | .fault _ | .refused _ => s

/-- A step ends in a bus error. -/
def faults (s : State) : Bool :=
  match step s with
  | .fault .busError => true
  | .next _ | .refused _ => false

/-- Reset, with every sample `c`. -/
def uniform (c : Sample) : State := { State.reset with pix := Vector.replicate 64 (some c) }

/-- Reset, with every coefficient 0 but `x` at DC, `a` at (4,1) and `b` at (3,2). -/
def coefs (x a b : Coeff) : State :=
  { State.reset with
    coef := (((Vector.replicate 64 (some 0)).set 0 (some x)).set 33 (some a)).set 26 (some b) }

/-- Reset, with a frame size, a frame count, a bit index and a header width. -/
def cover (w h : Half) (f k : Word) (n : Half) : State :=
  { State.reset with frameW := w, frameH := h, frameCnt := f, kidx := k, hdrW := n }

/-- Reset, with a host script and a schedule. -/
def hosted (ops : List HostOp) (ts : List Turn) : State := { State.reset with script := ops, turns := ts }

/-- Reset, with an accepted `NOP`. -/
def nopInFlight : State := acceptCommand 0 State.reset

/-- The texture block of TV-F7, by its formula. -/
def tex : State :=
  { State.reset with
    pix := Vector.ofFn fun e : Fin 64 => some (BitVec.ofNat 8
      ((37 * (e.val / 8) + 11 * (e.val % 8) + 5 * (e.val / 8) * (e.val % 8) % 23) % 200 + 20)) }

/-- Equal positions, A = B = (3,2) (TV-E22). -/
def equalPositions (s : State) : State := storePos 0x00002323 s

/-! ## Decoding: bits 31:9 RSV, bit 8 B, bits 7:0 OPC, written out from R61 and R64 -/

theorem decode_nop : decode 0b00000000000000000000000_0_00000000#32 = .cmd .nop := by decide
theorem decode_fdct : decode 0b00000000000000000000000_0_00000001#32 = .cmd .fdct := by decide
theorem decode_idct : decode 0b00000000000000000000000_0_00000010#32 = .cmd .idct := by decide
theorem decode_embed_0 : decode 0b00000000000000000000000_0_00000011#32 = .cmd (.embed 0) := by decide
theorem decode_embed_1 : decode 0b00000000000000000000000_1_00000011#32 = .cmd (.embed 1) := by decide
theorem decode_extract : decode 0b00000000000000000000000_0_00000100#32 = .cmd .extract := by decide
theorem decode_embedBlock_0 : decode 0b00000000000000000000000_0_00000101#32 = .cmd (.embedBlock 0) := by decide
theorem decode_embedBlock_1 : decode 0b00000000000000000000000_1_00000101#32 = .cmd (.embedBlock 1) := by decide
theorem decode_extractBlock : decode 0b00000000000000000000000_0_00000110#32 = .cmd .extractBlock := by decide
theorem decode_cursor : decode 0b00000000000000000000000_0_00000111#32 = .cmd .cursor := by decide
theorem decode_capacity : decode 0b00000000000000000000000_0_00001000#32 = .cmd .capacity := by decide

/-- TV-D4 to TV-D10. -/
theorem decode_illegal :
    decode 0x00000009 = .illegal .reservedOpcode ∧ decode 0x000000FF = .illegal .reservedOpcode ∧
    decode 0x00000101 = .illegal .strayB ∧ decode 0x00000107 = .illegal .strayB ∧
    decode 0x00000203 = .illegal .reservedBits ∧ decode 0x80000001 = .illegal .reservedBits ∧
    decode 0xFFFFFFFF = .illegal .reservedBits := by decide

/-- The table numbering: a row's word, a longer word is none. -/
theorem decode_table :
    decodeTableWord 32 0x105 = some (.embedBlock 1) ∧ decodeTableWord 32 0x106 = none ∧
    decodeTableWord 64 0x105 = none := by decide

/-! ## Ill-formed terms are refused -/

theorem illFormed_embed_2 : (Asm.embed 2).wellFormed = false := by decide
theorem illFormed_embedBlock_2 : (Asm.embedBlock 2).wellFormed = false := by decide
theorem illFormed_loadPix_63 : (Asm.loadPix (List.replicate 63 0)).wellFormed = false := by decide
theorem illFormed_pix_16 : (Asm.wr (.pix 16) 0).wellFormed = false := by decide
theorem illFormed_coef_32 : (Asm.rd (.coef 32)).wellFormed = false := by decide
theorem illFormed_rd_width : (HostOp.rd 16 0x100).wellFormed = false := by decide
theorem illFormed_wr_width : (HostOp.wr 64 0x100 0).wellFormed = false := by decide
theorem illFormed_rd_offset : (HostOp.rd 32 0x102).wellFormed = false := by decide
theorem illFormed_wr_offset : (HostOp.wr 32 0x101 0).wellFormed = false := by decide
/-- At the last values the checks allow. -/
theorem wellFormed_edges :
    (Asm.embed 1).wellFormed ∧ (Asm.wr (.pix 15) 0).wellFormed ∧ (Asm.rd (.coef 31)).wellFormed ∧
    (HostOp.rd 32 0xFFC).wellFormed ∧ (Asm.loadPix (List.replicate 64 0)).wellFormed := by decide

/-! ## The commands -/

/-- TV-N1. -/
theorem test_nop : statusWord (after .nop State.reset) = 0x00000002 := by decide
/-- TV-N2: `irq` after the step, and after `CLEARST`. -/
theorem test_nop_irq :
    irq (after .nop { State.reset with ie := true }) = true ∧
    irq (busWrite 0x008 0x0000000A (after .nop { State.reset with ie := true })) = false := by decide

/-- TV-F7: `COEF[4][1] = 532`, `COEF[3][2] = 750`, and `COEF[0][7] = -221`. -/
theorem test_fdct_tex :
    (after .fdct tex).coef[elt 4 1] = some (BitVec.ofInt 16 532) ∧
    (after .fdct tex).coef[elt 3 2] = some (BitVec.ofInt 16 750) ∧
    (after .fdct tex).coef[elt 0 7] = some (BitVec.ofInt 16 (-221)) := by decide +kernel
/-- TV-F4, TV-F5: rows first. The vertical ramp gives -2332 at (1,0), the horizontal one -2333 at (0,1). -/
theorem test_fdct_rows_first :
    fdct (fun i _ => 16 * (i.val : Int) + 8) 1 0 = -2332 ∧
    fdct (fun _ j => 16 * (j.val : Int) + 8) 0 1 = -2333 := by decide +kernel

/-- TV-I3, TV-I4: 16354 is the largest DC that does not clip, 16355 the smallest that does. -/
theorem test_idct_clip :
    statusWord (after .idct (coefs 16354 0 0)) = 0x00000002 ∧
    statusWord (after .idct (coefs 16355 0 0)) = 0x00000006 := by decide +kernel
/-- TV-I9: row 0 begins 145, row 1 ends 145. -/
theorem test_idct_rows :
    (after .idct (coefs 8192 800 0)).pix[elt 0 0] = some 145 ∧
    (after .idct (coefs 8192 800 0)).pix[elt 1 7] = some 145 ∧
    (after .idct (coefs 8192 800 0)).pix[elt 0 1] = some 143 := by decide +kernel

/-- TV-E6: 50, 100 and bit 1 give 164, -14. -/
theorem test_embed_swap_and_nudge :
    (after (.embed 1) (coefs 0 50 100)).coef[elt 4 1] = some (BitVec.ofInt 16 164) ∧
    (after (.embed 1) (coefs 0 50 100)).coef[elt 3 2] = some (BitVec.ofInt 16 (-14)) := by decide +kernel
/-- TV-E20: overflow. -/
theorem test_embed_overflow : statusWord (after (.embed 0) (coefs 0 0x8000 0x8000)) = 0x00000042 := by
  decide +kernel

/-- TV-X4: the comparison is signed. -/
theorem test_extract_signed : (after .extract (coefs 0 0xFFFF 0xFFFE)).resultBit = 1 := by decide +kernel
/-- TV-X9. -/
theorem test_extract_config :
    statusWord (after .extract (equalPositions (coefs 0 1 0))) = 0x00000032 ∧
    (after .extract (equalPositions (coefs 0 1 0))).resultBit = 0 := by decide +kernel

/-- TV-B1: `PIX+0 = 0x82818080`, `COEF+16 = 0x00400000`, `COEF+13 = 0x0000FFC0`. -/
theorem test_embedBlock :
    busRead (after (.embedBlock 1) (uniform 128)) 0x100 = 0x82818080 ∧
    busRead (after (.embedBlock 1) (uniform 128)) 0x240 = 0x00400000 ∧
    busRead (after (.embedBlock 1) (uniform 128)) 0x234 = 0x0000FFC0 := by decide +kernel
/-- TV-B8: overflow leaves `PIX`. -/
theorem test_embedBlock_overflow :
    statusWord (after (.embedBlock 1) { uniform 128 with stepReg := 0xFFFF, marginReg := 0xFFFF }) = 0x00000042 ∧
    (after (.embedBlock 1) { uniform 128 with stepReg := 0xFFFF, marginReg := 0xFFFF }).pix = (uniform 128).pix := by
  decide +kernel

/-- TV-F7 and TV-X7: the texture block carries 0, and `COEF+16 = 0x0214009A`. -/
theorem test_extractBlock_tex :
    (after .extractBlock tex).resultBit = 0 ∧ busRead (after .extractBlock tex) 0x240 = 0x0214009A := by
  decide +kernel
/-- R92, corner case: a uniform block gives 0. -/
theorem test_extractBlock_uniform :
    (after .extractBlock { uniform 77 with resultBit := 1 }).resultBit = 0 := by decide +kernel

/-- TV-C9: 72, 40, 3 and index 70 give 1, 2, 7. -/
theorem test_cursor :
    (after .cursor (cover 72 40 3 70 32)).curFrame = 1 ∧ (after .cursor (cover 72 40 3 70 32)).curBy = 2 ∧
    (after .cursor (cover 72 40 3 70 32)).curBx = 7 := by decide
/-- TV-C6: index 640 of 640. -/
theorem test_cursor_range : statusWord (after .cursor (cover 64 64 10 640 32)) = 0x00000052 := by decide

/-- TV-K7. -/
theorem test_capacity :
    (after .capacity (cover 1920 1080 300 0 32)).capBits = 9719968 ∧
    (after .capacity (cover 1920 1080 300 0 32)).capBytes = 1214996 := by decide
/-- TV-K8: saturation. -/
theorem test_capacity_saturates :
    (after .capacity (cover 65535 65535 4294967295 0 32)).capBits = 0xFFFFFFFF ∧
    (after .capacity (cover 65535 65535 4294967295 0 32)).capBytes = 0xFFFFFFFF := by decide

/-! ## The bus -/

/-- TV-W1, TV-W2: the first and the last word of the `PIX` window. -/
theorem test_pixWindow :
    (busWrite 0x100 0x04030201 State.reset).pix[elt 0 2] = some 3 ∧
    busRead (busWrite 0x100 0x04030201 State.reset) 0x100 = 0x04030201 ∧
    (busWrite 0x13C 0xFF00807F State.reset).pix[elt 7 5] = some 128 ∧
    (busWrite 0x13C 0xFF00807F State.reset).pix[elt 7 7] = some 255 := by decide +kernel
/-- TV-W3, TV-W4: the first and the last word of the `COEF` window. -/
theorem test_coefWindow :
    (busWrite 0x200 0x80007FFF State.reset).coef[elt 0 1] = some (BitVec.ofInt 16 (-32768)) ∧
    busRead (busWrite 0x200 0x80007FFF State.reset) 0x200 = 0x80007FFF ∧
    (busWrite 0x27C 0xFFFF0001 State.reset).coef[elt 7 6] = some 1 ∧
    (busWrite 0x27C 0xFFFF0001 State.reset).coef[elt 7 7] = some (BitVec.ofInt 16 (-1)) := by decide +kernel
/-- TV-W6, TV-W7, TV-W8: the bits a register has. -/
theorem test_registerBits :
    busRead (busWrite 0x010 0xFFFFFFFF State.reset) 0x010 = 0x00007777 ∧
    busRead (busWrite 0x014 0x12345678 State.reset) 0x014 = 0x00005678 ∧
    busRead (busWrite 0x004 0xFFFFFFFF State.reset) 0x004 = 0x00000001 := by decide
/-- TV-W14: a narrow access and an unaligned one. -/
theorem test_busErrors :
    faults (hosted [.rd 8 0x000] []) = true ∧ faults (hosted [.wr 16 0x100 0] []) = true ∧
    faults (hosted [.wr 32 0x102 0] []) = true ∧ faults (hosted [.wr 32 0x100 0] []) = false := by decide +kernel
/-- TV-S2, TV-S3, TV-S4: the first error stays; `DONE` and `ERR` are cleared by bits 1 and 3. -/
theorem test_stickyError :
    statusWord (busWrite 0x00C 0x101 (busWrite 0x00C 0x9 State.reset)) = 0x00000012 ∧
    statusWord (busWrite 0x008 0x2 (busWrite 0x00C 0x9 State.reset)) = 0x00000010 ∧
    statusWord (busWrite 0x008 0x8 (busWrite 0x008 0x2 (busWrite 0x00C 0x9 State.reset))) = 0 := by decide
/-- TV-S6, TV-S7, TV-S8, TV-S9: writes while a command is in flight. -/
theorem test_busyWrites :
    statusWord (busWrite 0x00C 0x1 nopInFlight) = 0x00000021 ∧
    statusWord (after .nop (busWrite 0x00C 0x1 nopInFlight)) = 0x00000022 ∧
    (busWrite 0x100 0 nopInFlight).pix = nopInFlight.pix ∧ statusWord (busWrite 0x100 0 nopInFlight) = 0x00000021 ∧
    statusWord (busWrite 0x00C 0x9 nopInFlight) = 0x00000021 ∧
    (busWrite 0x004 1 nopInFlight).ie = true ∧ statusWord (busWrite 0x008 0xA nopInFlight) = 0x00000001 := by
  decide +kernel
/-- P3: the same write after the engine step and before it. -/
theorem test_schedules :
    (stepped (stepped (hosted [.wr 32 0x00C 0, .wr 32 0x010 0] [.host, .host]))).posAU = 4 ∧
    (stepped (stepped (stepped (hosted [.wr 32 0x00C 0, .wr 32 0x010 0] [.host, .engine, .host])))).posAU = 0 := by
  decide +kernel
/-- The word placed by `withFetchWord` is run by the very next step (R53). -/
theorem test_withFetchWord :
    statusWord (State.reset.withFetchWord 32 8) = 0x00000001 ∧
    statusWord (stepped (State.reset.withFetchWord 32 7)) = 0x00000052 := by decide
/-- R69: `LOADPIX`, `CLEARST` and an embed command as transactions. -/
theorem test_assembly :
    (expand (.loadPix ((List.range 64).map (BitVec.ofNat 8)))).getD 15 .wait = .wr 32 0x13C 0x3F3E3D3C ∧
    expand .clearSt = [.wr 32 0x008 0x0000000A] ∧ expand (.embed 1) = [.wr 32 0x00C 0x00000103] := by decide
/-- R128, R47: an address reaches the engine whose window holds it. -/
theorem test_platform :
    engineOf [⟨0x4000, State.reset⟩, ⟨0x8000, State.reset⟩] 0x8FFC = some 1 ∧
    engineOf [⟨0x4000, State.reset⟩, ⟨0x8000, State.reset⟩] 0x5000 = none ∧
    windowOffset 0x8000 0x8FFC = some 0xFFC ∧ windowsApart 0x4000 0x8000 = true := by decide

/-! ## Witnesses: what meets the hypotheses of each obligation -/

/-- `LegalityTestAndRefusal`, second clause. -/
theorem witness_legality : State.reset.busy = false ∧ ∀ i, decode 0x00000009 ≠ .cmd i := by
  refine ⟨rfl, fun i => ?_⟩
  rw [show decode 0x00000009 = .illegal .reservedOpcode from by decide]
  nofun

theorem witness_stepRuns :
    nextTurn (State.reset.withFetchWord 32 8) = .engine ∧ (State.reset.withFetchWord 32 8).busy = true ∧
    (State.reset.withFetchWord 32 8).latch = some 8 ∧ decode 8 = .cmd .capacity := by decide

/-- `StepRunsTheLatchedCommand`, the clauses of an agent that has nothing to do. -/
theorem witness_nothingToDo :
    (nextTurn (hosted [] [.engine, .host]) = .engine ∧ (hosted [] [.engine, .host]).busy = false) ∧
    (nextTurn nopInFlight = .engine ∧ nextTurn { nopInFlight with turns := [.host] } = .host ∧
      ({ nopInFlight with turns := [.host] } : State).script = []) := by decide

theorem witness_everyStepKeeps :
    (ProtocolInv State.reset ∧ step State.reset = .next State.reset) ∧
    (ProtocolInv nopInFlight ∧ step nopInFlight = .next (stepped nopInFlight)) :=
  ⟨⟨by unfold ProtocolInv; decide, rfl⟩, ⟨by unfold ProtocolInv; decide, rfl⟩⟩

/-- `StepStopsExactlyOnBusErrors`: a state of each kind. -/
theorem witness_stepStops :
    ProtocolInv (hosted [.rd 32 0xFFC] []) ∧ faults (hosted [.rd 32 0xFFC] []) = false ∧
    ProtocolInv (hosted [.rd 32 0xFFE] []) ∧ faults (hosted [.rd 32 0xFFE] []) = true := by
  unfold ProtocolInv; decide +kernel

theorem witness_acceptedCommand :
    (acceptCommand 8 (hosted [.wait] [.host])).busy = true ∧ (acceptCommand 8 (hosted [.wait] [.host])).latch = some 8 ∧
    decode 8 = .cmd .capacity ∧ (∀ op ∈ (hosted [.wait] [.host]).script, op.wellFormed = true) ∧
    Turn.reset ∉ (hosted [.wait] [.host]).turns := by decide

theorem witness_issued :
    (hosted (issue .fdct ++ [.wait]) [.host, .engine]).busy = false ∧
    (hosted (issue .fdct ++ [.wait]) [.host, .engine]).script = issue .fdct ++ [.wait] ∧
    (hosted (issue .fdct ++ [.wait]) [.host, .engine]).turns = .host :: .engine :: [] := ⟨rfl, rfl, rfl⟩

theorem witness_resetInput : (acceptCommand 1 (hosted [] [.reset, .host])).turns = .reset :: [.host] := rfl

/-- `HostTransactionIsServedOrABusError`, clause by clause. -/
theorem witness_hostTransaction :
    (nextTurn (hosted [.rd 64 0xFFC] []) = .host ∧ (64 : Nat) ≠ 32) ∧
    (nextTurn (hosted [.wr 32 0xFFF 0] []) = .host ∧ (0xFFF : Offset).toNat % 4 ≠ 0) ∧
    (nextTurn (hosted [.rd 32 0x000] []) = .host ∧ (0x000 : Offset).toNat % 4 = 0) ∧
    (nextTurn (hosted [.wr 32 0xFFC 0] []) = .host ∧ (0xFFC : Offset).toNat % 4 = 0) ∧
    nextTurn (hosted [.wait] []) = .host := by decide

/-- `ReadsHaveNoSideEffectAndRepeat`: while idle, and while busy at a place whose read is unspecified. -/
theorem witness_reads :
    ((acceptCommand 1 (hosted [.rd 32 0x01C, .rd 32 0x01C] [.host, .host])).busy = true ∧
      unspecifiedWhileBusy (locOf 0x01C) = true ∧ (0x01C : Offset).toNat % 4 = 0 ∧
      (acceptCommand 1 (hosted [.rd 32 0x01C, .rd 32 0x01C] [.host, .host])).turns = [.host, .host]) ∧
    (0xFFC : Offset).toNat % 4 = 0 ∧ (hosted [.rd 32 0xFFC, .rd 32 0xFFC] [.host, .host]).turns = [.host, .host] ∧
    (hosted [.rd 32 0xFFC, .rd 32 0xFFC] [.host, .host]).script = [.rd 32 0xFFC, .rd 32 0xFFC] := by decide

/-- `PixWindowPacking`, `CoefWindowPacking`, `WritableRegistersReadBack`, `RegisterReads`, `FirstErrorIsSticky`: an idle
state; the first and last words of the windows are in `test_pixWindow` and `test_coefWindow`. -/
theorem witness_idle : State.reset.busy = false := rfl

/-- `ReadOnlyAndReservedPlaces`: the ends of the reserved ranges. -/
theorem witness_reserved :
    (0x044 : Offset) ∈ ([0x000, 0x01C, 0x034, 0x038, 0x03C, 0x040, 0x044] : List Offset) ∧
    ∀ off ∈ ([0x048, 0x0FF, 0x140, 0x1FF, 0x280, 0xFFF] : List Offset),
      (0x048 ≤ off.toNat ∧ off.toNat < 0x100) ∨ (0x140 ≤ off.toNat ∧ off.toNat < 0x200) ∨ 0x280 ≤ off.toNat := by
  decide

/-- `CmdWriteRule`, clause by clause. -/
theorem witness_cmdWrite :
    nopInFlight.busy = true ∧
    (State.reset.busy = false ∧ decode 0x00000009 = .illegal .reservedOpcode) ∧
    (State.reset.busy = false ∧ decode 0x00000008 = .cmd .capacity) := by decide

/-- `ProtectedWritesAreIgnoredWhileBusy`: the ends of the ranges. -/
theorem witness_protected :
    nopInFlight.busy = true ∧
    ∀ off ∈ ([0x010, 0x030, 0x100, 0x13F, 0x200, 0x27F] : List Offset),
      off ∈ ([0x010, 0x014, 0x018, 0x020, 0x024, 0x028, 0x02C, 0x030] : List Offset) ∨
        (0x100 ≤ off.toNat ∧ off.toNat < 0x140) ∨ (0x200 ≤ off.toNat ∧ off.toNat < 0x280) := by decide

theorem witness_inputsFrozen :
    (acceptCommand 1 (hosted [.wr 32 0x100 5] [.host])).busy = true ∧
    nextTurn (acceptCommand 1 (hosted [.wr 32 0x100 5] [.host])) = .host ∧
    step (acceptCommand 1 (hosted [.wr 32 0x100 5] [.host])) =
      .next (stepped (acceptCommand 1 (hosted [.wr 32 0x100 5] [.host]))) := ⟨rfl, rfl, rfl⟩

theorem witness_loadPix : State.reset.busy = false ∧ (List.replicate 64 (0xFF : Sample)).length = 64 := by decide

/-- `InterruptFollowsCompletionAndClear`: enabled and busy, and enabled and idle with an illegal word (TV-S12). -/
theorem witness_interrupt :
    ({ nopInFlight with ie := true } : State).busy = true ∧ irq { nopInFlight with ie := true } = false ∧
    irq (busWrite 0x00C 0x1 { nopInFlight with ie := true }) = true ∧
    irq (busWrite 0x27C 0 { nopInFlight with ie := true }) = true ∧
    ({ State.reset with ie := true } : State).busy = false ∧
    irq (busWrite 0x00C 0x9 { State.reset with ie := true }) = true := by decide +kernel

/-- `CommandsLeaveOtherPlacesAlone`: a place `EMBED` writes and its neighbour, which it does not. -/
theorem witness_otherPlaces :
    writesPlace (.embed 1) State.reset (locOf 0x240) = true ∧
    writesPlace (.embed 1) State.reset (locOf 0x244) = false := by decide

/-- `BadConfigExactlyWhen`, `ErrorCodesPerCommand`: both sides of each case. -/
theorem witness_badConfig :
    (State.reset.err = .noError ∧ (after .extract (equalPositions State.reset)).err = .badConfig ∧
      (after .nop State.reset).err = .noError) ∧
    ((after (.embed 1) { coefs 0 0 0 with stepReg := 0 }).err = .badConfig ∧
      (after (.embed 1) { coefs 0 0 0 with marginReg := 0 }).err = .badConfig ∧
      (after (.embed 1) { coefs 0 0 0 with marginReg := 1 }).err = .noError) := by decide +kernel

/-- `ErrorsChangeNothingElse`, both clauses. -/
theorem witness_errorsChange :
    (exec .cursor { State.reset with err := .noError } = .next (after .cursor State.reset) ∧
      (after .cursor State.reset).err ≠ .noError) ∧
    (busWrite 0x00C 0x9 { State.reset with err := .noError }).err ≠ .noError :=
  ⟨⟨rfl, by decide⟩, by decide⟩

/-- `FirstErrorIsSticky`, first clause, both ways to clear. -/
theorem witness_firstError :
    (step { hosted [.wr 32 0x008 0x8] [] with err := .busy } =
        .next (stepped { hosted [.wr 32 0x008 0x8] [] with err := .busy }) ∧
      (stepped { hosted [.wr 32 0x008 0x8] [] with err := .busy }).err ≠ .busy) ∧
    (step { hosted [] [.reset] with err := .busy } = .next (stepped { hosted [] [.reset] with err := .busy }) ∧
      (stepped { hosted [] [.reset] with err := .busy }).err ≠ .busy) :=
  ⟨⟨rfl, by decide⟩, ⟨rfl, by decide⟩⟩

/-- `ClipIsWrittenByTheInverseTransformOnly`: the embed clauses and the frame clause. -/
theorem witness_clip :
    (badEmbedConfig (uniform 128) = false ∧
      embedPair (fdct (samples (uniform 128)) (ua (uniform 128)) (va (uniform 128)))
        (fdct (samples (uniform 128)) (ub (uniform 128)) (vb (uniform 128))) 1 (stepS (uniform 128))
        (marginM (uniform 128)) = some (64, -64)) ∧
    badEmbedConfig (equalPositions State.reset) = true ∧
    (Instr.fdct ≠ .idct ∧ ∀ b, Instr.fdct ≠ .embedBlock b) := by
  refine ⟨⟨by decide, by decide +kernel⟩, by decide, by decide, nofun⟩

/-- `ResultRegistersHaveOneWriter`, clause by clause. -/
theorem witness_resultRegisters :
    (step (acceptCommand 4 (coefs 0 1 0)) = .next (stepped (acceptCommand 4 (coefs 0 1 0))) ∧
      nextTurn (acceptCommand 4 (coefs 0 1 0)) ≠ .reset ∧
      (stepped (acceptCommand 4 (coefs 0 1 0))).resultBit ≠ (coefs 0 1 0).resultBit) ∧
    (step (acceptCommand 7 (cover 64 64 10 639 32)) = .next (stepped (acceptCommand 7 (cover 64 64 10 639 32))) ∧
      (stepped (acceptCommand 7 (cover 64 64 10 639 32))).curFrame ≠ 0) ∧
    (step (acceptCommand 8 (cover 8 8 33 0 32)) = .next (stepped (acceptCommand 8 (cover 8 8 33 0 32))) ∧
      (stepped (acceptCommand 8 (cover 8 8 33 0 32))).capBits ≠ 0) :=
  ⟨⟨rfl, by decide, by decide +kernel⟩, ⟨rfl, by decide⟩, ⟨rfl, by decide⟩⟩

theorem witness_writtenInputs :
    inputsWritten .fdct (uniform 0) = true ∧ inputsWritten .idct (coefs 0 0 0) = true ∧
    inputsWritten (.embed 1) (coefs 0 0 0) = true ∧ inputsWritten .fdct State.reset = false ∧
    inputsWritten .nop State.reset = true := by decide +kernel

/-- `FdctStaysInRange`: the two ends of the sample range. -/
theorem witness_fdctRange :
    (∀ i n : Fin 8, 0 ≤ (fun _ _ => 255 : Matrix) i n ∧ (fun _ _ => 255 : Matrix) i n ≤ 255) ∧
    (∀ i n : Fin 8, 0 ≤ (fun _ _ => 0 : Matrix) i n ∧ (fun _ _ => 0 : Matrix) i n ≤ 255) := by decide

/-- `FdctOfAUniformBlock`: the blocks of its clauses. -/
theorem witness_uniformBlock :
    (∀ e : Fin 64, sampleAt (uniform 0) e = 0) ∧ (∀ e : Fin 64, sampleAt (uniform 128) e = 128) := by decide +kernel

/-- `IdctStaysInRange`: the two ends of the coefficient range. -/
theorem witness_idctRange :
    (∀ u v : Fin 8, -32768 ≤ (fun _ _ => -32768 : Matrix) u v ∧ (fun _ _ => -32768 : Matrix) u v ≤ 32767) ∧
    (∀ u v : Fin 8, -32768 ≤ (fun _ _ => 32767 : Matrix) u v ∧ (fun _ _ => 32767 : Matrix) u v ≤ 32767) := by decide

/-- `EmbedPairPostconditions`: both bits, a gap of `M` and of `M - 1` (TV-E7, TV-E8, TV-E14, TV-E16). -/
theorem witness_embedPair :
    embedPair 128 0 1 32 128 = some (128, 0) ∧ embedPair 127 0 1 32 128 = some (159, -32) ∧
    embedPair 10 0 0 32 128 = some (-64, 74) ∧ embedPair 300 (-200) 0 32 128 = some (-200, 300) ∧
    embedPair 5 5 1 1 1 = some (6, 4) := by decide

/-- `EmbedPairOverflowsExactlyWhen`: both sides, at both ends (TV-E19, TV-E20, TV-E17). -/
theorem witness_embedPair_overflow :
    embedPair 32767 32767 1 32 128 = none ∧ embedPair (-32768) (-32768) 0 32 128 = none ∧
    embedPair 16316 (-16316) 0 32 128 = some (-16316, 16316) := by decide

theorem witness_embed :
    (¬ ((coefs 0 0 0).posAU = (coefs 0 0 0).posBU ∧ (coefs 0 0 0).posAV = (coefs 0 0 0).posBV) ∧
      (coefs 0 0 0).stepReg ≠ 0 ∧ (coefs 0 0 0).marginReg ≠ 0) ∧
    embedPair (coeffA (coefs 0 0 0)) (coeffB (coefs 0 0 0)) 1 (coefs 0 0 0).stepReg.toNat (coefs 0 0 0).marginReg.toNat =
      some (64, -64) := by decide +kernel

/-- `EmbedErrors`, clause by clause. -/
theorem witness_embedErrors :
    ((equalPositions State.reset).posAU = (equalPositions State.reset).posBU ∧
      (equalPositions State.reset).posAV = (equalPositions State.reset).posBV) ∧
    (¬ ((coefs 0 0x7FFF 0x7FFF).posAU = (coefs 0 0x7FFF 0x7FFF).posBU ∧
        (coefs 0 0x7FFF 0x7FFF).posAV = (coefs 0 0x7FFF 0x7FFF).posBV) ∧
      (coefs 0 0x7FFF 0x7FFF).stepReg ≠ 0 ∧ (coefs 0 0x7FFF 0x7FFF).marginReg ≠ 0 ∧
      embedPair (coeffA (coefs 0 0x7FFF 0x7FFF)) (coeffB (coefs 0 0x7FFF 0x7FFF)) 1
        (coefs 0 0x7FFF 0x7FFF).stepReg.toNat (coefs 0 0x7FFF 0x7FFF).marginReg.toNat = none) := by decide +kernel

/-- `ExtractResult`, `ExtractBlockResult`: distinct and equal positions. -/
theorem witness_extract :
    ¬ (State.reset.posAU = State.reset.posBU ∧ State.reset.posAV = State.reset.posBV) ∧
    ((equalPositions State.reset).posAU = (equalPositions State.reset).posBU ∧
      (equalPositions State.reset).posAV = (equalPositions State.reset).posBV) := by decide

theorem witness_embedThenExtract :
    badEmbedConfig (coefs 0 0 0) = false ∧
    embedPair (coeffA (coefs 0 0 0)) (coeffB (coefs 0 0 0)) 0 (stepS (coefs 0 0 0)) (marginM (coefs 0 0 0)) ≠ none ∧
    exec (.embed 0) (coefs 0 0 0) = .next (after (.embed 0) (coefs 0 0 0)) :=
  ⟨by decide, by decide +kernel, rfl⟩

theorem witness_embedBlock :
    (¬ ((uniform 128).posAU = (uniform 128).posBU ∧ (uniform 128).posAV = (uniform 128).posBV) ∧
      (uniform 128).stepReg ≠ 0 ∧ (uniform 128).marginReg ≠ 0) ∧
    embedPair (fdct (samples (uniform 128)) (ua (uniform 128)) (va (uniform 128)))
      (fdct (samples (uniform 128)) (ub (uniform 128)) (vb (uniform 128))) 1
      (uniform 128).stepReg.toNat (uniform 128).marginReg.toNat = some (64, -64) := by decide +kernel

/-- `EmbedBlockErrors`: the overflow clause (TV-B8); the other clause is that of `witness_embedErrors`. -/
theorem witness_embedBlockErrors :
    embedPair (fdct (samples (uniform 128)) (ua (uniform 128)) (va (uniform 128)))
      (fdct (samples (uniform 128)) (ub (uniform 128)) (vb (uniform 128))) 1
      ({ uniform 128 with stepReg := 0xFFFF, marginReg := 0xFFFF } : State).stepReg.toNat
      ({ uniform 128 with stepReg := 0xFFFF, marginReg := 0xFFFF } : State).marginReg.toNat = none := by decide +kernel

theorem witness_threeCommands :
    badEmbedConfig (uniform 128) = false ∧ exec .fdct (uniform 128) = .next (after .fdct (uniform 128)) ∧
    embedPair (coeffA (after .fdct (uniform 128))) (coeffB (after .fdct (uniform 128))) 1
      (stepS (after .fdct (uniform 128))) (marginM (after .fdct (uniform 128))) ≠ none ∧
    exec (.embed 1) (after .fdct (uniform 128)) = .next (after (.embed 1) (after .fdct (uniform 128))) ∧
    exec .idct (after (.embed 1) (after .fdct (uniform 128))) =
      .next (after .idct (after (.embed 1) (after .fdct (uniform 128)))) :=
  ⟨by decide, rfl, by decide +kernel, rfl, rfl⟩

/-- `EmbedBlockCannotOverflow`: the reset values, and the bound reached. -/
theorem witness_cannotOverflow :
    badEmbedConfig State.reset = false ∧ State.reset.marginReg.toNat / 2 + State.reset.stepReg.toNat ≤ 16451 ∧
    badEmbedConfig { State.reset with marginReg := 32838 } = false ∧
    ({ State.reset with marginReg := 32838 } : State).marginReg.toNat / 2 +
      ({ State.reset with marginReg := 32838 } : State).stepReg.toNat = 16451 := by decide

/-- `ExtractBlockResult`, first clause. -/
theorem witness_extractBlock :
    exec .fdct (uniform 128) = .next (after .fdct (uniform 128)) ∧
    exec .extract (after .fdct (uniform 128)) = .next (after .extract (after .fdct (uniform 128))) := ⟨rfl, rfl⟩

/-- `CursorResult`: the first and the last block (TV-C1, TV-C5). -/
theorem witness_cursor :
    (0 < 64 / 8 * (64 / 8) ∧ (cover 64 64 10 0 32).kidx.toNat < 64 / 8 * (64 / 8) * 10) ∧
    (cover 64 64 10 639 32).kidx.toNat < 64 / 8 * (64 / 8) * (cover 64 64 10 639 32).frameCnt.toNat := by decide

/-- `CursorOutOfRange`, case by case (TV-C10, TV-C11, TV-C6). -/
theorem witness_cursorRange :
    (cover 7 64 10 0 32).frameW.toNat < 8 ∧ (cover 64 7 10 0 32).frameH.toNat < 8 ∧
    (cover 64 64 0 0 32).frameCnt = 0 ∧
    (cover 64 64 10 640 32).frameW.toNat / 8 * ((cover 64 64 10 640 32).frameH.toNat / 8) *
      (cover 64 64 10 640 32).frameCnt.toNat ≤ (cover 64 64 10 640 32).kidx.toNat := by decide

/-- `CursorIsAnOrderedBijection`, clause by clause, at the ends of the ranges. -/
theorem witness_bijection :
    (0 < 9 ∧ 0 < 5) ∧ 0 < 9 * 5 * 3 ∧ 134 < 9 * 5 * 3 ∧ (2 < 3 ∧ 4 < 5 ∧ 8 < 9) ∧ 44 < 45 := by decide

/-- `CapacityResult`: `total = HDR_W` and `total = HDR_W + 1` (TV-K4, TV-K3). -/
theorem witness_capacity :
    (32 = (cover 8 8 32 0 32).frameW.toNat / 8 * ((cover 8 8 32 0 32).frameH.toNat / 8) *
        (cover 8 8 32 0 32).frameCnt.toNat ∧ 32 ≤ (cover 8 8 32 0 32).hdrW.toNat) ∧
    (33 = (cover 8 8 33 0 32).frameW.toNat / 8 * ((cover 8 8 33 0 32).frameH.toNat / 8) *
        (cover 8 8 33 0 32).frameCnt.toNat ∧ (cover 8 8 33 0 32).hdrW.toNat < 33 ∧
      1 + (cover 8 8 33 0 32).hdrW.toNat = 33) := by decide

theorem witness_monotone :
    (cover 64 64 10 0 32).frameW.toNat ≤ (cover 72 64 10 0 0).frameW.toNat ∧
    (cover 64 64 10 0 32).frameH.toNat ≤ (cover 72 64 10 0 0).frameH.toNat ∧
    (cover 64 64 10 0 32).frameCnt.toNat ≤ (cover 72 64 10 0 0).frameCnt.toNat ∧
    (cover 72 64 10 0 0).hdrW.toNat ≤ (cover 64 64 10 0 32).hdrW.toNat ∧
    exec .capacity (cover 64 64 10 0 32) = .next (after .capacity (cover 64 64 10 0 32)) ∧
    exec .capacity (cover 72 64 10 0 0) = .next (after .capacity (cover 72 64 10 0 0)) :=
  ⟨by decide, by decide, by decide, by decide, rfl, rfl⟩

/-- `PayloadWithinCapacityIsInCursorRange`: the last index of the 640 block cover. -/
theorem witness_payload :
    exec .capacity (cover 64 64 10 0 32) = .next (after .capacity (cover 64 64 10 0 32)) ∧
    (after .capacity (cover 64 64 10 0 32)).capBits ≠ 0 ∧
    (639 : Word).toNat < (cover 64 64 10 0 32).hdrW.toNat + (after .capacity (cover 64 64 10 0 32)).capBits.toNat :=
  ⟨rfl, by decide, by decide⟩

theorem witness_engines :
    ([⟨0, State.reset⟩, ⟨0x1000, nopInFlight⟩] : List Slot)[1]? = some ⟨0x1000, nopInFlight⟩ ∧
    step nopInFlight = .next (stepped nopInFlight) := ⟨rfl, rfl⟩

/-- R128: a platform of two after reset, each engine with its own number. -/
theorem test_resetPlatform :
    resetPlatform [0x4000, 0x8000] = [⟨0x4000, State.reset⟩, ⟨0x8000, { State.reset with engineId := 1 }⟩] := by
  decide +kernel

end Sys2Proof.Tests
end

-- ==== Proofs of the family 10_state: the step, the busy protocol and the result registers ====
section
namespace Sys2Proof.Machine

/-! ## What an engine step can do -/

/-- `t` holds what `s` does in `CLIP` and in every result register (R31, R38, R43, R44). -/
structure SameResults (s t : State) : Prop where
  clip : t.clip = s.clip
  resultBit : t.resultBit = s.resultBit
  curFrame : t.curFrame = s.curFrame
  curBy : t.curBy = s.curBy
  curBx : t.curBx = s.curBx
  capBits : t.capBits = s.capBits
  capBytes : t.capBytes = s.capBytes

/-- Ending a command with an error writes no result (R111). -/
theorem raiseErr_sameResults (c : ErrCode) (s : State) : SameResults s (raiseErr c s) :=
  ⟨rfl, rfl, rfl, rfl, rfl, rfl, rfl⟩

/-- Every command's engine step answers a next state. -/
theorem exec_next (i : Instr) (s : State) : ∃ t, exec i s = .next t := by
  obtain ⟨c, h⟩ | ⟨_, _, _, _, _, _, _, _, _, h⟩ := exec_cases i s <;> exact ⟨_, h⟩

/-- Every command ends with `BUSY = 0` and the latch empty (R111). -/
theorem exec_ends {i : Instr} {s t : State} (h : exec i s = .next t) : t.busy = false ∧ t.latch = none := by
  obtain ⟨c, he⟩ | ⟨_, _, _, _, _, _, _, _, _, he⟩ := exec_cases i s <;>
    rw [he, Host.Outcome.next.injEq] at h <;> subst h <;> exact ⟨rfl, rfl⟩

/-- Which commands may change which results between `s` and `t`: `CLIP` only the two that run the inverse transform
(R31), `RESULT` only the extracting two (R38), `CUR_*` only `CURSOR` (R43), `CAP_*` only `CAPACITY` (R44). -/
structure ChangesOwnResults (i : Instr) (s t : State) : Prop where
  clip : i ≠ .idct → (∀ b, i ≠ .embedBlock b) → t.clip = s.clip
  result : i ≠ .extract → i ≠ .extractBlock → t.resultBit = s.resultBit
  cur : i ≠ .cursor → t.curFrame = s.curFrame ∧ t.curBy = s.curBy ∧ t.curBx = s.curBx
  cap : i ≠ .capacity → t.capBits = s.capBits ∧ t.capBytes = s.capBytes

theorem SameResults.changesOwnResults {s t : State} (h : SameResults s t) (i : Instr) : ChangesOwnResults i s t :=
  ⟨fun _ _ => h.clip, fun _ _ => h.resultBit, fun _ => ⟨h.curFrame, h.curBy, h.curBx⟩,
    fun _ => ⟨h.capBits, h.capBytes⟩⟩

/-- A command changes no result register but its own, and no flag `CLIP` but by the inverse transform. -/
theorem exec_changesOwnResults {i : Instr} {s t : State} (h : exec i s = .next t) : ChangesOwnResults i s t := by
  have untouched {u : State} (h : SameResults s u) : ChangesOwnResults i s u := h.changesOwnResults i
  cases i <;> simp only [exec] at h
  case nop => cases h; exact untouched ⟨rfl, rfl, rfl, rfl, rfl, rfl, rfl⟩
  case fdct => cases h; exact untouched ⟨rfl, rfl, rfl, rfl, rfl, rfl, rfl⟩
  case idct => cases h; exact ⟨fun hi => absurd rfl hi, fun _ _ => rfl, fun _ => ⟨rfl, rfl, rfl⟩, fun _ => ⟨rfl, rfl⟩⟩
  case capacity =>
    cases h; exact ⟨fun _ _ => rfl, fun _ _ => rfl, fun _ => ⟨rfl, rfl, rfl⟩, fun hi => absurd rfl hi⟩
  case cursor =>
    simp only [execCursor, Host.Outcome.next.injEq] at h
    split at h <;> subst h
    · exact untouched (raiseErr_sameResults _ s)
    · exact ⟨fun _ _ => rfl, fun _ _ => rfl, fun hi => absurd rfl hi, fun _ => ⟨rfl, rfl⟩⟩
  case extract =>
    simp only [execExtract, Host.Outcome.next.injEq] at h
    split at h <;> subst h
    · exact untouched (raiseErr_sameResults _ s)
    · exact ⟨fun _ _ => rfl, fun hi _ => absurd rfl hi, fun _ => ⟨rfl, rfl, rfl⟩, fun _ => ⟨rfl, rfl⟩⟩
  case extractBlock =>
    simp only [execExtractBlock, Host.Outcome.next.injEq] at h
    split at h <;> subst h
    · exact untouched (raiseErr_sameResults _ s)
    · exact ⟨fun _ _ => rfl, fun _ hi => absurd rfl hi, fun _ => ⟨rfl, rfl, rfl⟩, fun _ => ⟨rfl, rfl⟩⟩
  case embed b =>
    simp only [execEmbed, Host.Outcome.next.injEq] at h
    split at h
    · subst h; exact untouched (raiseErr_sameResults _ s)
    · split at h <;> subst h
      · exact untouched (raiseErr_sameResults _ s)
      · exact untouched ⟨rfl, rfl, rfl, rfl, rfl, rfl, rfl⟩
  case embedBlock b =>
    simp only [execEmbedBlock, Host.Outcome.next.injEq] at h
    split at h
    · subst h; exact untouched (raiseErr_sameResults _ s)
    · split at h <;> subst h
      · exact untouched (raiseErr_sameResults _ s)
      · exact ⟨fun _ hi => absurd rfl (hi b), fun _ _ => rfl, fun _ => ⟨rfl, rfl, rfl⟩, fun _ => ⟨rfl, rfl⟩⟩

/-- `EMBED_BLOCK` completes with the modified block when the configuration is good and the pair fits (R91). -/
theorem exec_embedBlock_completes {b : BitVec 1} {s : State} {a' b' : Int} (hc : badEmbedConfig s = false)
    (hp : embedPair (fdct (samples s) (ua s) (va s)) (fdct (samples s) (ub s) (vb s)) b (stepS s) (marginM s) =
      some (a', b')) :
    exec (.embedBlock b) s = .next (complete (storeEmbeddedBlock s (replacePair s (fdct (samples s)) a' b'))) := by
  simp only [exec, execEmbedBlock, hc, hp, Bool.false_eq_true, if_false]

/-- `EMBED_BLOCK` ends with an error when the configuration is bad or the pair overflows (R91, R116). -/
theorem exec_embedBlock_errs {b : BitVec 1} {s : State} (h : badEmbedConfig s = true ∨
      embedPair (fdct (samples s) (ua s) (va s)) (fdct (samples s) (ub s) (vb s)) b (stepS s) (marginM s) = none) :
    ∃ c, exec (.embedBlock b) s = .next (raiseErr c s) := by
  simp only [exec, execEmbedBlock]
  by_cases hc : badEmbedConfig s = true
  · exact ⟨.badConfig, by rw [if_pos hc]⟩
  · exact ⟨.coefOvf, by rw [if_neg hc, h.resolve_left hc]⟩

/-! ## What a bus write can do -/

/-- `t` agrees with `s` on everything a bus write changes at `STATUS` and `CMD` only, or not at all: the results, and
`BUSY`, `DONE` and the latch. -/
structure SameOutputs (s t : State) : Prop extends SameResults s t where
  busy : t.busy = s.busy
  done : t.done = s.done
  latch : t.latch = s.latch

/-- A write to a protected place leaves the outputs, if its store does. -/
theorem writeProtected_sameOutputs {store : State → State} {s : State} (h : SameOutputs s (store s)) :
    SameOutputs s (writeProtected store s) := by
  cases hb : s.busy with
  | true => rw [writeProtected_whileBusy hb]; exact ⟨⟨rfl, rfl, rfl, rfl, rfl, rfl, rfl⟩, rfl, rfl, rfl⟩
  | false => rwa [writeProtected_whileIdle hb]

/-- Everything a bus write can do to the outputs: what `STATUS` or `CMD` does, or nothing. -/
theorem busWrite_cases (off : Offset) (v : Word) (s : State) :
    busWrite off v s = writeStatus v s ∨ busWrite off v s = writeCmd v s ∨ SameOutputs s (busWrite off v s) := by
  have stored {t : State} (h : SameOutputs s t) : t = writeStatus v s ∨ t = writeCmd v s ∨ SameOutputs s t :=
    .inr (.inr h)
  unfold busWrite
  split
  · rename_i r _
    cases r
    case status => exact .inl rfl
    case cmd => exact .inr (.inl rfl)
    case pos | step | margin | frameW | frameH | frameCnt | hdrW | kidx =>
      rw [writeReg]
      exact stored (writeProtected_sameOutputs ⟨⟨rfl, rfl, rfl, rfl, rfl, rfl, rfl⟩, rfl, rfl, rfl⟩)
    case ctrl | id | result | curFrame | curBy | curBx | capBits | capBytes =>
      exact stored ⟨⟨rfl, rfl, rfl, rfl, rfl, rfl, rfl⟩, rfl, rfl, rfl⟩
  · exact stored (writeProtected_sameOutputs ⟨⟨rfl, rfl, rfl, rfl, rfl, rfl, rfl⟩, rfl, rfl, rfl⟩)
  · exact stored (writeProtected_sameOutputs ⟨⟨rfl, rfl, rfl, rfl, rfl, rfl, rfl⟩, rfl, rfl, rfl⟩)
  · exact stored ⟨⟨rfl, rfl, rfl, rfl, rfl, rfl, rfl⟩, rfl, rfl, rfl⟩

/-- Everything a write to `CMD` can do (R112): drop the word while busy, refuse an illegal one, accept a legal one. -/
theorem writeCmd_cases (w : Word) (s : State) :
    (s.busy = true ∧ writeCmd w s = setErr .busy s) ∨
    (s.busy = false ∧ writeCmd w s = { setErr .illegalCmd s with done := true }) ∨
    (s.busy = false ∧ (∃ i, decode w = .cmd i) ∧ writeCmd w s = acceptCommand w s) := by
  unfold writeCmd
  cases hb : s.busy with
  | true => exact .inl ⟨rfl, rfl⟩
  | false =>
    cases hd : decode w with
    | illegal why => exact .inr (.inl ⟨rfl, rfl⟩)
    | cmd i => exact .inr (.inr ⟨rfl, ⟨i, rfl⟩, rfl⟩)

/-- No bus write changes `CLIP` or a result register (R31, R38, R43, R44). -/
theorem busWrite_sameResults (off : Offset) (v : Word) (s : State) : SameResults s (busWrite off v s) := by
  obtain h | h | h := busWrite_cases off v s
  · rw [h]; exact ⟨rfl, rfl, rfl, rfl, rfl, rfl, rfl⟩
  · rw [h]
    obtain ⟨_, h⟩ | ⟨_, h⟩ | ⟨_, _, h⟩ := writeCmd_cases v s <;> rw [h] <;>
      exact ⟨rfl, rfl, rfl, rfl, rfl, rfl, rfl⟩
  · exact h.toSameResults

/-! ## What a step can do -/

/-- Everything an engine's turn that answers a next state can do: nothing while idle, otherwise the engine step of the
latched command, counted (R29, R53). -/
theorem engineTurn_cases {s t : State} (h : engineTurn s = .next t) :
    (s.busy = false ∧ t = s) ∨
    (∃ w i u, s.latch = some w ∧ decode w = .cmd i ∧ exec i s = .next u ∧ t = { u with tick := u.tick + 1 }) := by
  cases hb : s.busy with
  | false => rw [engineTurn_idle hb] at h; cases h; exact .inl ⟨rfl, rfl⟩
  | true =>
    cases hl : s.latch with
    | none => simp [engineTurn, hb, hl] at h
    | some w =>
      cases hd : decode w with
      | illegal why => simp [engineTurn, hb, hl, hd] at h
      | cmd i =>
        obtain ⟨u, hu⟩ := exec_next i s
        rw [engineTurn_busy hb hl hd, hu] at h
        cases h
        exact .inr ⟨w, i, u, rfl, hd, hu, rfl⟩

/-- Everything a step that answers a next state can do (R53): the reset, an engine step, one bus write, or a change of
the model's own host log and schedule only (a read, a poll, an agent with nothing to do). -/
theorem step_cases {s t : State} (h : step s = .next t) :
    (nextTurn s = .reset ∧ t = assertReset (dropTurn s)) ∨
    (nextTurn s = .engine ∧ ∃ w i u, s.latch = some w ∧ decode w = .cmd i ∧ exec i (dropTurn s) = .next u ∧
      t = { u with tick := u.tick + 1 }) ∨
    (nextTurn s = .host ∧ ∃ off v rest, s.script = .wr 32 off v :: rest ∧
      t = { busWrite off v (dropTurn s) with script := rest, tick := s.tick + 1 }) ∨
    (∃ script reads, t = { dropTurn s with script := script, reads := reads }) := by
  rw [step_eq] at h
  cases hn : nextTurn s with
  | reset => rw [hn] at h; cases h; exact .inl ⟨rfl, rfl⟩
  | engine =>
    rw [hn] at h
    obtain ⟨_, rfl⟩ | he := engineTurn_cases h
    · exact .inr (.inr (.inr ⟨_, _, rfl⟩))
    · exact .inr (.inl ⟨rfl, he⟩)
  | host =>
    rw [hn, takeTurn] at h
    obtain ⟨_, e⟩ | ⟨_, _, _, _, e⟩ | ⟨off, v, rest, hs, _, e⟩ | ⟨_, _, e⟩ | ⟨_, _, _, _, e⟩ :=
      hostTurn_cases (dropTurn s) <;> rw [e] at h <;> cases h
    · exact .inr (.inr (.inr ⟨_, _, rfl⟩))
    · exact .inr (.inr (.inr ⟨_, _, rfl⟩))
    · exact .inr (.inr (.inl ⟨rfl, off, v, rest, hs, rfl⟩))
    · exact .inr (.inr (.inr ⟨_, _, rfl⟩))

/-! ## The busy protocol -/

/-- The invariant says: idle with an empty latch, or busy with a legal word latched and `DONE = 0`. -/
theorem protocolInv_iff (s : State) :
    ProtocolInv s ↔ (s.busy = false ∧ s.latch = none) ∨
      (s.busy = true ∧ s.done = false ∧ ∃ w i, s.latch = some w ∧ decode w = .cmd i) := by
  unfold ProtocolInv latchLegal
  cases hl : s.latch with
  | none => cases s.busy <;> simp
  | some w => cases s.busy <;> cases hd : decode w <;> simp [hd]

/-- The invariant speaks of `BUSY`, `DONE` and the latch only. -/
theorem protocolInv_congr {s t : State} (hb : t.busy = s.busy) (hd : t.done = s.done) (hl : t.latch = s.latch) :
    ProtocolInv t ↔ ProtocolInv s := by rw [protocolInv_iff, protocolInv_iff, hb, hd, hl]

/-- An engine with an empty latch and `BUSY = 0` meets the invariant. -/
theorem protocolInv_of_idle {s : State} (hb : s.busy = false) (hl : s.latch = none) : ProtocolInv s :=
  (protocolInv_iff s).2 (.inl ⟨hb, hl⟩)

/-- A write to `STATUS` keeps the invariant: it can only clear `DONE` (R33). -/
theorem writeStatus_protocolInv {s : State} (h : ProtocolInv s) (w : Word) : ProtocolInv (writeStatus w s) := by
  obtain idle | ⟨hb, hd, hl⟩ := (protocolInv_iff s).1 h
  · exact (protocolInv_iff _).2 (.inl idle)
  · exact (protocolInv_iff _).2 (.inr ⟨hb, by simp [hd], hl⟩)

/-- A write to `CMD` keeps the invariant: what it latches is legal, and `DONE` falls with `BUSY` rising (R112). -/
theorem writeCmd_protocolInv {s : State} (h : ProtocolInv s) (w : Word) : ProtocolInv (writeCmd w s) := by
  obtain ⟨_, e⟩ | ⟨hb, e⟩ | ⟨_, ⟨i, hi⟩, e⟩ := writeCmd_cases w s <;> rw [e]
  · exact (protocolInv_congr rfl rfl rfl).2 h
  · have hl : s.latch = none := by simpa [protocolInv_iff, hb] using h
    exact protocolInv_of_idle hb hl
  · exact (protocolInv_iff _).2 (.inr ⟨rfl, rfl, w, i, rfl, hi⟩)

/-- Every bus write keeps the invariant. -/
theorem busWrite_protocolInv {s : State} (h : ProtocolInv s) (off : Offset) (v : Word) :
    ProtocolInv (busWrite off v s) := by
  obtain e | e | e := busWrite_cases off v s
  · rw [e]; exact writeStatus_protocolInv h v
  · rw [e]; exact writeCmd_protocolInv h v
  · exact (protocolInv_congr e.busy e.done e.latch).2 h

/-- Settles O7: reset and every engine step end idle, every bus write keeps the invariant, and every other step
leaves what it speaks of. -/
theorem everyStepKeepsInvariant : Obligations.EveryStepKeepsInvariant := by
  intro s t hs h
  have hd : ProtocolInv (dropTurn s) := (protocolInv_congr rfl rfl rfl).2 hs
  obtain ⟨_, rfl⟩ | ⟨_, w, i, u, _, _, hu, rfl⟩ | ⟨_, off, v, rest, _, rfl⟩ | ⟨_, _, rfl⟩ := step_cases h
  · exact protocolInv_of_idle rfl rfl
  · obtain ⟨hb, hl⟩ := exec_ends hu
    exact protocolInv_of_idle hb hl
  · exact (protocolInv_congr rfl rfl rfl).2 (busWrite_protocolInv hd off v)
  · exact (protocolInv_congr rfl rfl rfl).2 hd

/-! ## The results and the engine's turn -/

/-- Settles O32: the two writing commands by their equations, all others and the bus by what they change. -/
theorem clipIsWrittenByTheInverseTransformOnly : Obligations.ClipIsWrittenByTheInverseTransformOnly := by
  refine ⟨fun s => ⟨_, rfl, isClipped_iff _⟩, fun b s => ?_, fun b s => ?_, fun i s hi hb => ?_,
    fun off v s => (busWrite_sameResults off v s).clip, rfl⟩
  · obtain ⟨t, ht⟩ := exec_next (.embedBlock b) s
    refine ⟨t, ht, fun a' b' hc hp => ?_⟩
    rw [exec_embedBlock_completes hc hp, Host.Outcome.next.injEq] at ht
    rw [← ht]
    exact isClipped_iff _
  · obtain ⟨t, ht⟩ := exec_next (.embedBlock b) s
    refine ⟨t, ht, fun he => ?_⟩
    obtain ⟨c, hc⟩ := exec_embedBlock_errs he
    rw [hc, Host.Outcome.next.injEq] at ht
    rw [← ht, raiseErr_clip]
  · obtain ⟨t, ht⟩ := exec_next i s
    exact ⟨t, ht, (exec_changesOwnResults ht).clip hi hb⟩

/-- A step that is no reset leaves the results, or is the engine step of the latched command and changes only that
command's own. -/
theorem step_results {s t : State} (h : step s = .next t) (hr : nextTurn s ≠ .reset) :
    SameResults s t ∨
      (nextTurn s = .engine ∧ ∃ w i, s.latch = some w ∧ decode w = .cmd i ∧ ChangesOwnResults i s t) := by
  obtain ⟨hn, _⟩ | ⟨hn, w, i, u, hl, hd, hu, rfl⟩ | ⟨_, off, v, rest, _, rfl⟩ | ⟨_, _, rfl⟩ := step_cases h
  · exact absurd hn hr
  · obtain ⟨hclip, hresult, hcur, hcap⟩ := exec_changesOwnResults hu
    exact .inr ⟨hn, w, i, hl, hd, hclip, hresult, hcur, hcap⟩
  · obtain ⟨hclip, hbit, hframe, hby, hbx, hbits, hbytes⟩ := busWrite_sameResults off v (dropTurn s)
    exact .inl ⟨hclip, hbit, hframe, hby, hbx, hbits, hbytes⟩
  · exact .inl ⟨rfl, rfl, rfl, rfl, rfl, rfl, rfl⟩

/-- Settles O33: a changed result register excludes every command but its own. -/
theorem resultRegistersHaveOneWriter : Obligations.ResultRegistersHaveOneWriter := by
  intro s t h hr
  obtain same | ⟨hn, w, i, hl, hd, own⟩ := step_results h hr
  · exact ⟨fun hne => absurd same.resultBit hne,
      fun hne => by simp [same.curFrame, same.curBy, same.curBx] at hne,
      fun hne => by simp [same.capBits, same.capBytes] at hne⟩
  · refine ⟨fun hne => ⟨hn, w, hl, ?_⟩, fun hne => ⟨hn, w, hl, ?_⟩, fun hne => ⟨hn, w, hl, ?_⟩⟩
    · by_contra hi
      rw [hd, not_or] at hi
      exact hne (own.result (fun e => hi.1 (e ▸ rfl)) (fun e => hi.2 (e ▸ rfl)))
    · by_contra hi
      have kept := own.cur fun e => hi (e ▸ hd)
      simp [kept] at hne
    · by_contra hi
      have kept := own.cap fun e => hi (e ▸ hd)
      simp [kept] at hne

/-- Settles O5: each clause is the turn of the agent named, on the state with the turn taken. -/
theorem stepRunsTheLatchedCommand : Obligations.StepRunsTheLatchedCommand := by
  refine ⟨fun s w i hn hb hl hd => ?_, fun s hn hb => ?_, fun s hn hs => ?_⟩
  · obtain ⟨t, ht⟩ := exec_next i (dropTurn s)
    refine ⟨t, ht, ?_⟩
    rw [step_eq, hn, takeTurn, engineTurn_busy (s := dropTurn s) hb hl hd, ht, countStep]
  · rw [step_eq, hn, takeTurn, engineTurn_idle (s := dropTurn s) hb, dropTurn]
  · rw [step_eq, hn, takeTurn, hostTurn_nil (s := dropTurn s) hs, dropTurn]

end Sys2Proof.Machine
end

-- ==== Proofs of the family 10_state: reading and writing the registers ====
section
namespace Sys2Proof.Machine

/-! ## Reading and writing the registers -/

/-- A register the host may read while busy reads as its contents in every state (R55). -/
theorem busRead_reg {off : Offset} {r : Reg} (ho : locOf off = .reg r) (hu : unspecifiedWhileBusy (.reg r) = false)
    (s : State) : busRead s off = regWord s r := by
  simp [busRead, ho, hu, wordAt]

/-- While idle every register reads as its contents (R54). -/
theorem busRead_reg_whileIdle {off : Offset} {r : Reg} (ho : locOf off = .reg r) {s : State} (hb : s.busy = false) :
    busRead s off = regWord s r := by
  simp [busRead, ho, hb, wordAt]

/-- While idle a write to a protected register is its store. -/
theorem busWrite_protected_whileIdle {off : Offset} {r : Reg} {v : Word} {s : State} {store : State → State}
    (ho : locOf off = .reg r) (hw : writeReg v s r = writeProtected store s) (hb : s.busy = false) :
    busWrite off v s = store s := by
  rw [busWrite_reg ho, hw, writeProtected_whileIdle hb]

/-- The low 16 bits, widened again, are the word masked with `0xFFFF`. -/
theorem setWidth_low_half (v : Word) : (v.extractLsb' 0 16).setWidth 32 = v &&& 0x0000FFFF := by
  apply BitVec.eq_of_toNat_eq
  have mask : v.toNat &&& 65535 = v.toNat % 65536 := Nat.and_two_pow_sub_one_eq_mod v.toNat 16
  rw [BitVec.toNat_setWidth, BitVec.extractLsb'_toNat, BitVec.toNat_and, Nat.shiftRight_zero]
  exact (Nat.mod_eq_of_lt (by omega)).trans mask.symm

/-- A write to a 16-bit register while idle stores `v[15:0]`, which is what it reads as (R26). -/
theorem halfRegister_write {off : Offset} {r : Reg} {v : Word} {s : State} (store : Half → State → State)
    (ho : locOf off = .reg r) (hu : unspecifiedWhileBusy (.reg r) = false)
    (hw : writeReg v s r = writeProtected (store (v.setWidth 16)) s)
    (hr : ∀ h, regWord (store h s) r = h.setWidth 32) (hb : s.busy = false) :
    busRead (busWrite off v s) off = v &&& 0x0000FFFF ∧ busWrite off v s = store (v.extractLsb' 0 16) s := by
  have hs : busWrite off v s = store (v.extractLsb' 0 16) s := by
    rw [busWrite_protected_whileIdle ho hw hb, BitVec.setWidth_eq_extractLsb' (by decide)]
  exact ⟨by rw [busRead_reg ho hu, hs, hr, setWidth_low_half], hs⟩

/-- A write to a 32-bit register while idle stores the word, which is what it reads as (R26). -/
theorem wordRegister_write {off : Offset} {r : Reg} {v : Word} {s : State} (store : State → State)
    (ho : locOf off = .reg r) (hu : unspecifiedWhileBusy (.reg r) = false)
    (hw : writeReg v s r = writeProtected store s) (hr : regWord (store s) r = v) (hb : s.busy = false) :
    busRead (busWrite off v s) off = v ∧ busWrite off v s = store s := by
  have hs : busWrite off v s = store s := busWrite_protected_whileIdle ho hw hb
  exact ⟨by rw [busRead_reg ho hu, hs, hr], hs⟩

/-- The position fields of a stored word, put together again, are the word masked with `0x7777` (R35). -/
theorem posWord_storePos (v : Word) (s : State) : posWord (storePos v s) = v &&& 0x00007777 := by
  apply BitVec.eq_of_getLsbD_eq
  intro i hi
  simp only [posWord, storePos_posAU, storePos_posAV, storePos_posBU, storePos_posBV, BitVec.getLsbD_append,
    BitVec.getLsbD_extractLsb', BitVec.getLsbD_and]
  interval_cases i <;> simp

/-- Two words put together, as a number. -/
theorem toNat_append_add {m n : Nat} (x : BitVec m) (y : BitVec n) : (x ++ y).toNat = x.toNat * 2 ^ n + y.toNat := by
  rw [BitVec.toNat_append, ← Nat.shiftLeft_add_eq_or_of_lt y.isLt, Nat.shiftLeft_eq]

/-- The `POS` word as a number, field by field (R35). -/
theorem posWord_toNat (s : State) : (posWord s).toNat =
    s.posAU.toNat + 16 * s.posAV.toNat + 256 * s.posBU.toNat + 4096 * s.posBV.toNat := by
  simp only [posWord, toNat_append_add, BitVec.toNat_ofNat]
  omega

/-- Settles O17: `CTRL` in every state, then each input register by its store and what it then reads as. -/
theorem writableRegistersReadBack : Obligations.WritableRegistersReadBack := by
  refine ⟨fun s v => ?_, fun s v hb => ⟨?_, ?_, ?_, ?_, ?_, ?_, ?_, ?_⟩⟩
  · have hs : busWrite 0x004 v s = { s with ie := v.getLsbD 0 } := busWrite_reg (locOf_offsetOf .ctrl) v s
    refine ⟨?_, by rw [hs], hs⟩
    rw [hs]
    exact (busRead_reg (locOf_offsetOf .ctrl) rfl _).trans BitVec.and_one_eq_setWidth_ofBool_getLsbD.symm
  · have hs : busWrite 0x010 v s = storePos v s := busWrite_protected_whileIdle (locOf_offsetOf .pos) rfl hb
    rw [hs]
    refine ⟨?_, rfl, rfl, rfl, rfl, _, _, _, _, rfl⟩
    exact (busRead_reg (locOf_offsetOf .pos) rfl _).trans (posWord_storePos v s)
  · exact halfRegister_write (fun h t => { t with stepReg := h }) (locOf_offsetOf .step) rfl rfl (fun _ => rfl) hb
  · exact halfRegister_write (fun h t => { t with marginReg := h }) (locOf_offsetOf .margin) rfl rfl (fun _ => rfl) hb
  · exact halfRegister_write (fun h t => { t with frameW := h }) (locOf_offsetOf .frameW) rfl rfl (fun _ => rfl) hb
  · exact halfRegister_write (fun h t => { t with frameH := h }) (locOf_offsetOf .frameH) rfl rfl (fun _ => rfl) hb
  · exact wordRegister_write (fun t => { t with frameCnt := v }) (locOf_offsetOf .frameCnt) rfl rfl rfl hb
  · exact halfRegister_write (fun h t => { t with hdrW := h }) (locOf_offsetOf .hdrW) rfl rfl (fun _ => rfl) hb
  · exact wordRegister_write (fun t => { t with kidx := v }) (locOf_offsetOf .kidx) rfl rfl rfl hb

/-- A field widened to a word keeps its value. -/
theorem toNat_of_eq_setWidth {n : Nat} {w : Word} {x : BitVec n} (h : w = x.setWidth 32) (hn : n ≤ 32) :
    w.toNat = x.toNat := by
  rw [h, BitVec.toNat_setWidth_of_le hn]

/-- Settles O21: each register reads as its contents, a narrow field as its own number. -/
theorem registerReads : Obligations.RegisterReads := by
  refine fun s => ⟨?_, fun hb => ?_⟩
  · have hr (r : Reg) (hu : unspecifiedWhileBusy (.reg r) = false) : busRead s (offsetOf r) = regWord s r :=
      busRead_reg (locOf_offsetOf r) hu s
    have hctrl : busRead s 0x004 = (BitVec.ofBool s.ie).setWidth 32 := hr .ctrl rfl
    have hpos : busRead s 0x010 = posWord s := hr .pos rfl
    refine ⟨hr .id rfl, hr .cmd rfl, ?_, by rw [hpos, posWord_toNat], toNat_of_eq_setWidth (hr .step rfl) (by decide),
      toNat_of_eq_setWidth (hr .margin rfl) (by decide), toNat_of_eq_setWidth (hr .frameW rfl) (by decide),
      toNat_of_eq_setWidth (hr .frameH rfl) (by decide), hr .frameCnt rfl,
      toNat_of_eq_setWidth (hr .hdrW rfl) (by decide), hr .kidx rfl⟩
    rw [hctrl]
    cases s.ie <;> rfl
  · have hr (r : Reg) : busRead s (offsetOf r) = regWord s r := busRead_reg_whileIdle (locOf_offsetOf r) hb
    exact ⟨toNat_of_eq_setWidth (hr .result) (by decide), hr .curFrame, toNat_of_eq_setWidth (hr .curBy) (by decide),
      toNat_of_eq_setWidth (hr .curBx) (by decide), hr .capBits, hr .capBytes⟩

/-- The `STATUS` word, field by field (R33). -/
theorem statusWord_fields (s : State) :
    (statusWord s).getLsbD 0 = s.busy ∧ (statusWord s).getLsbD 1 = s.done ∧ (statusWord s).getLsbD 2 = s.clip ∧
    (statusWord s).getLsbD 3 = false ∧ (statusWord s).extractLsb' 4 4 = s.err.code ∧
    (statusWord s).extractLsb' 8 24 = 0 := by
  refine ⟨statusWord_busy s, ?_, ?_, ?_, ?_, ?_⟩
  · simp only [statusWord, BitVec.getLsbD_append]; simp
  · simp only [statusWord, BitVec.getLsbD_append]; simp
  · simp only [statusWord, BitVec.getLsbD_append]; simp
  · rw [statusWord]
    iterate 4 rw [BitVec.extractLsb'_append_eq_of_le (by decide)]
    exact BitVec.extractLsb'_append_eq_right
  · rw [statusWord]
    iterate 5 rw [BitVec.extractLsb'_append_eq_of_le (by decide)]
    rfl

/-- Settles O22: the write is `writeStatus`, the read the `STATUS` word. -/
theorem statusWriteRule : Obligations.StatusWriteRule := by
  intro s w
  have hr : busRead s 0x008 = statusWord s := busRead_reg (locOf_offsetOf .status) rfl s
  rw [hr]
  exact ⟨busWrite_reg (locOf_offsetOf .status) w s, statusWord_fields s⟩

end Sys2Proof.Machine
end

-- ==== Proofs of the family 20_memory: the host's turn and the fate of an accepted command ====
section
namespace Sys2Proof.Machine

/-! ## The host's turn -/

/-- On the host's turn the step is that turn. -/
theorem step_host {s : State} (h : nextTurn s = .host) : step s = hostTurn (dropTurn s) := by
  rw [step_eq, h, takeTurn]

/-- A transaction that is not one aligned word is a bus error (R52, R115). -/
theorem hostTurn_illFormed {s : State} {op : HostOp} {rest : List HostOp} (hs : s.script = op :: rest)
    (hw : op.wellFormed = false) : hostTurn s = .fault .busError := by
  obtain ⟨hs', _⟩ | ⟨off, _, hs', ho, _⟩ | ⟨off, _, _, hs', ho, _⟩ | ⟨_, hs', _⟩ | ⟨_, _, _, _, e⟩ := hostTurn_cases s
  · simp [hs] at hs'
  · obtain ⟨rfl, rfl⟩ := List.cons.inj (hs.symm.trans hs')
    simp [HostOp.wellFormed, ho] at hw
  · obtain ⟨rfl, rfl⟩ := List.cons.inj (hs.symm.trans hs')
    simp [HostOp.wellFormed, ho] at hw
  · obtain ⟨rfl, rfl⟩ := List.cons.inj (hs.symm.trans hs')
    simp [HostOp.wellFormed] at hw
  · exact e

/-- The host's turn goes on unless its next transaction is not one aligned word. -/
theorem hostTurn_next {s : State} (h : ¬ ∃ op rest, s.script = op :: rest ∧ op.wellFormed = false) :
    ∃ t, hostTurn s = .next t := by
  obtain ⟨_, e⟩ | ⟨_, _, _, _, e⟩ | ⟨_, _, _, _, _, e⟩ | ⟨_, _, e⟩ | ⟨op, rest, hs, hw, _⟩ := hostTurn_cases s
  · exact ⟨_, e⟩
  · exact ⟨_, e⟩
  · exact ⟨_, e⟩
  · exact ⟨_, e⟩
  · exact absurd ⟨op, rest, hs, hw⟩ h

/-- A host transaction of the wrong width or at an unaligned offset is ill-formed (R52). -/
theorem illFormed_of_narrow_or_unaligned {bits : Nat} {off : Offset} (h : bits ≠ 32 ∨ off.toNat % 4 ≠ 0) (v : Word) :
    (HostOp.rd bits off).wellFormed = false ∧ (HostOp.wr bits off v).wellFormed = false := by
  obtain h | h := h <;> simp [HostOp.wellFormed, h]

/-- The host's read of one aligned word, as a step: its value is logged, and the engine stays as it is (R52, R54). -/
theorem step_read {s : State} {off : Offset} {rest : List HostOp} (hn : nextTurn s = .host)
    (hs : s.script = .rd 32 off :: rest) (ho : off.toNat % 4 = 0) :
    step s = .next { s with turns := s.turns.tail, script := rest, reads := busRead s off :: s.reads } := by
  rw [step_host hn, hostTurn, dropTurn_script, hs]
  simp only [busErrorAt, ho]
  rfl

/-- The host's write of one aligned word, as a step (R11, R52). -/
theorem step_write {s : State} {off : Offset} {v : Word} {rest : List HostOp} (hn : nextTurn s = .host)
    (hs : s.script = .wr 32 off v :: rest) (ho : off.toNat % 4 = 0) :
    step s = .next { busWrite off v (dropTurn s) with script := rest, tick := s.tick + 1 } := by
  rw [step_host hn, hostTurn, dropTurn_script, hs]
  simp only [busErrorAt, ho]
  rfl

/-- One poll of `WAIT`, as a step: it reads `STATUS` and stands again while `BUSY = 1` (R69). -/
theorem step_wait {s : State} {rest : List HostOp} (hn : nextTurn s = .host) (hs : s.script = .wait :: rest) :
    step s = .next { s with
      turns := s.turns.tail, script := if s.busy then s.script else rest, reads := busRead s 0x008 :: s.reads } := by
  have status : busRead s 0x008 = statusWord s := busRead_reg (locOf_offsetOf .status) rfl s
  rw [step_host hn, hostTurn, dropTurn_script, hs, status, statusWord_busy]
  rfl

/-- Settles O13: each clause is the host's turn on the transaction named. -/
theorem hostTransactionIsServedOrABusError : Obligations.HostTransactionIsServedOrABusError := by
  intro s bits off v rest hn
  refine ⟨fun hs hbad => ?_, fun hs hbits ho => ?_, fun hs hbits ho => ?_, step_wait hn⟩
  · obtain ⟨hrd, hwr⟩ := illFormed_of_narrow_or_unaligned hbad v
    rw [step_host hn]
    exact hs.elim (hostTurn_illFormed · hrd) (hostTurn_illFormed · hwr)
  · subst hbits; exact step_read hn hs ho
  · subst hbits; exact step_write hn hs ho

/-- Settles O14: the first read leaves the second one its turn, its offset and its value. -/
theorem readsHaveNoSideEffectAndRepeat : Obligations.ReadsHaveNoSideEffectAndRepeat := by
  intro s off rest ts ho hs ht
  have first := step_read (by rw [nextTurn, ht]) hs ho
  have second := step_read (by rw [nextTurn, ht]; rfl) rfl ho (s := { s with
    turns := s.turns.tail, script := .rd 32 off :: rest, reads := busRead s off :: s.reads })
  rw [run_succ 1 first, run_succ 0 second, run_zero, ht]
  rfl

/-! ## Where a step stops -/

/-- An engine that meets the invariant always answers a next state in its turn (R29, R112). -/
theorem engineTurn_next {s : State} (h : ProtocolInv s) : ∃ t, engineTurn s = .next t := by
  obtain ⟨hb, _⟩ | ⟨hb, _, w, i, hl, hd⟩ := (protocolInv_iff s).1 h
  · exact ⟨s, engineTurn_idle hb⟩
  · obtain ⟨t, ht⟩ := exec_next i s
    exact ⟨_, by rw [engineTurn_busy hb hl hd, ht, countStep]⟩

/-- From a state that meets the invariant every step answers a next state, but for the host's turn at an ill-formed
transaction. -/
theorem step_next {s : State} (h : ProtocolInv s)
    (hg : ¬ (nextTurn s = .host ∧ ∃ op rest, s.script = op :: rest ∧ op.wellFormed = false)) :
    ∃ t, step s = .next t := by
  rw [step_eq]
  cases hn : nextTurn s with
  | host => exact hostTurn_next (s := dropTurn s) fun hbad => hg ⟨hn, hbad⟩
  | engine => exact engineTurn_next ((protocolInv_congr rfl rfl rfl).2 h)
  | reset => exact ⟨_, rfl⟩

/-- Settles O8: the step is a bus error at the host's ill-formed transaction and answers a next state otherwise. -/
theorem stepStopsExactlyOnBusErrors : Obligations.StepStopsExactlyOnBusErrors := by
  intro s h
  by_cases hg : nextTurn s = .host ∧ ∃ op rest, s.script = op :: rest ∧ op.wellFormed = false
  · obtain ⟨hn, op, rest, hs, hw⟩ := hg
    have stops : step s = .fault .busError := by rw [step_host hn]; exact hostTurn_illFormed hs hw
    exact ⟨fun r => by simp [stops], fun _ => ⟨hn, op, rest, hs, hw⟩, fun _ => stops⟩
  · obtain ⟨t, ht⟩ := step_next h hg
    exact ⟨fun r => by simp [ht], fun e => by simp [ht] at e, fun e => absurd e hg⟩

/-! ## The host's turn while a command is in flight -/

/-- Everything a host's turn can change while busy: `CTRL.IE`, `DONE`, `ERR` and the host agent's own fields, its
script only by what it has done of it (R55). -/
theorem hostTurn_whileBusy {s t : State} (hb : s.busy = true) (h : hostTurn s = .next t) :
    ∃ ie done err script reads tick, script ⊆ s.script ∧
      t = { s with ie := ie, done := done, err := err, script := script, reads := reads, tick := tick } := by
  obtain ⟨_, e⟩ | ⟨_, rest, hs, _, e⟩ | ⟨off, v, rest, hs, _, e⟩ | ⟨rest, hs, e⟩ | ⟨_, _, _, _, e⟩ :=
    hostTurn_cases s <;> rw [e] at h <;> cases h
  · exact ⟨s.ie, s.done, s.err, _, s.reads, s.tick, List.Subset.refl _, rfl⟩
  · exact ⟨s.ie, s.done, s.err, rest, _, s.tick, by simp [hs], rfl⟩
  · obtain ⟨ie, done, err, hw⟩ := busWrite_whileBusy hb off v
    exact ⟨ie, done, err, rest, s.reads, _, by simp [hs], by rw [hw]⟩
  · exact ⟨s.ie, s.done, s.err, s.script, _, s.tick, List.Subset.refl _, by rw [statusWord_busy, hb]; rfl⟩

/-- The same of the step that is the host's turn, which also takes that turn off the schedule. -/
theorem step_host_whileBusy {s t : State} (hb : s.busy = true) (hn : nextTurn s = .host) (h : step s = .next t) :
    ∃ ie done err script reads tick, script ⊆ s.script ∧
      t = { s with turns := s.turns.tail, ie := ie, done := done, err := err
                   script := script, reads := reads, tick := tick } :=
  hostTurn_whileBusy (s := dropTurn s) hb ((step_host hn).symm.trans h)

theorem sameInputs_refl (s : State) : SameInputs s s :=
  ⟨rfl, rfl, rfl, rfl, rfl, rfl, rfl, rfl, rfl, rfl, rfl, rfl, rfl, rfl, rfl⟩

/-- Settles O24: a host's turn while busy changes none of the fields named. -/
theorem inputsAreFrozenWhileBusy : Obligations.InputsAreFrozenWhileBusy := by
  intro s t hb hn h
  obtain ⟨_, _, _, _, _, _, _, rfl⟩ := step_host_whileBusy hb hn h
  exact ⟨sameInputs_refl s, hb, rfl, rfl, rfl, rfl, rfl, rfl, rfl, rfl⟩

/-! ## The fate of an accepted command -/

theorem sameInputs_trans {s t u : State} (h : SameInputs s t) (h' : SameInputs t u) : SameInputs s u := by
  unfold SameInputs at h h' ⊢
  simp_all only [and_self]

/-- Every command ends with `DONE = 1` (R111). -/
theorem exec_done {i : Instr} {s t : State} (h : exec i s = .next t) : t.done = true := by
  obtain ⟨c, he⟩ | ⟨_, _, _, _, _, _, _, _, _, he⟩ := exec_cases i s <;>
    rw [he, Host.Outcome.next.injEq] at h <;> subst h <;> rfl

/-- Within `n` steps from `s` the engine's turn comes, its command still in flight, with the latch and every input as
they are in `s`. -/
def EngineTurnWithin (n : Nat) (s : State) : Prop :=
  ∃ k u, k ≤ n ∧ Host.Core.run Sys2Proof.core k s = .next u ∧ nextTurn u = .engine ∧ u.busy = true ∧
    u.latch = s.latch ∧ SameInputs s u

/-- Where it is a busy engine's turn, no step is needed. -/
theorem engineTurnWithin_now {s : State} (n : Nat) (hb : s.busy = true) (hn : nextTurn s = .engine) :
    EngineTurnWithin n s :=
  ⟨0, s, Nat.zero_le n, run_zero s, hn, hb, rfl, sameInputs_refl s⟩

/-- A step that keeps the latch and the inputs comes one step before. -/
theorem engineTurnWithin_step {n : Nat} {s t : State} (h : step s = .next t) (hl : t.latch = s.latch)
    (hi : SameInputs s t) (ht : EngineTurnWithin n t) : EngineTurnWithin (n + 1) s := by
  obtain ⟨k, u, hk, hrun, hn, hb, hul, hui⟩ := ht
  exact ⟨k + 1, u, Nat.succ_le_succ hk, (run_succ k h).trans hrun, hn, hb, hul.trans hl, sameInputs_trans hi hui⟩

/-- With a command in flight, well-formed transactions and no reset scheduled, the engine's turn comes when the turns
of the schedule are used up at the latest (R53, R55). -/
theorem engineTurnWithin_schedule {s : State} (hb : s.busy = true) (hw : ∀ op ∈ s.script, op.wellFormed = true)
    (hr : .reset ∉ s.turns) : EngineTurnWithin s.turns.length s := by
  induction hts : s.turns generalizing s with
  | nil => exact engineTurnWithin_now _ hb (by simp [nextTurn, hts, hb])
  | cons turn ts ih =>
    cases turn with
    | engine => exact engineTurnWithin_now _ hb (by rw [nextTurn, hts])
    | reset => simp [hts] at hr
    | host =>
      have hn : nextTurn s = .host := by rw [nextTurn, hts]
      obtain ⟨t, ht⟩ : ∃ t, step s = .next t := by
        rw [step_host hn]
        refine hostTurn_next (s := dropTurn s) fun ⟨op, rest, hs, hbad⟩ => ?_
        have served := hw op (by rw [← dropTurn_script, hs]; exact List.mem_cons_self)
        simp [hbad] at served
      obtain ⟨_, _, _, _, _, _, hsub, e⟩ := step_host_whileBusy hb hn ht
      obtain ⟨hi, htb, htl, _⟩ := inputsAreFrozenWhileBusy s t hb hn ht
      have htt : t.turns = ts := by rw [e, hts, List.tail_cons]
      refine engineTurnWithin_step ht htl hi (ih htb ?_ ?_ htt)
      · rw [e]; exact fun op ho => hw op (hsub ho)
      · rw [htt]; exact fun hmem => hr (by rw [hts]; exact List.mem_cons_of_mem _ hmem)

/-- Settles O9: the run to the engine's turn, and then the engine step. -/
theorem acceptedCommandIsExecutedOnItsInputs : Obligations.AcceptedCommandIsExecutedOnItsInputs := by
  intro s w i hb hl hd hw hr
  obtain ⟨k, u, hk, hrun, hn, hub, hul, hin⟩ := engineTurnWithin_schedule hb hw hr
  obtain ⟨runsLatched, _, _⟩ := stepRunsTheLatchedCommand
  obtain ⟨t, ht, hstep⟩ := runsLatched u w i hn hub (hul.trans hl) hd
  exact ⟨k, u, t, hk, hrun, hul.trans hl, hin, ht, hstep, (exec_ends ht).1, exec_done ht⟩

end Sys2Proof.Machine
end

-- ==== Proofs of the family 20_memory: the register window and the buffer windows ====
section
namespace Sys2Proof.Machine

/-! ## Places a write leaves alone -/

/-- The offsets beyond the registers and outside the buffer windows are reserved (R47). -/
theorem locOf_reserved {off : Offset} (h : (0x048 ≤ off.toNat ∧ off.toNat < 0x100) ∨
      (0x140 ≤ off.toNat ∧ off.toNat < 0x200) ∨ 0x280 ≤ off.toNat) : locOf off = .reserved := by
  have noPix : ¬ (64 ≤ off.toNat / 4 ∧ off.toNat / 4 < 80) := by omega
  have noCoef : ¬ (128 ≤ off.toNat / 4 ∧ off.toNat / 4 < 160) := by omega
  have noReg : 18 ≤ off.toNat / 4 := by omega
  unfold locOf
  generalize off.toNat / 4 = k at noPix noCoef noReg
  split
  case h_19 => rw [if_neg noPix, if_neg noCoef]
  all_goals omega

/-- A register that is read-only ignores writes (R26, R54). -/
theorem busWrite_readOnly {r : Reg} (h : r ∈ [.id, .result, .curFrame, .curBy, .curBx, .capBits, .capBytes])
    (v : Word) (s : State) : busWrite (offsetOf r) v s = s := by
  rw [busWrite_reg (locOf_offsetOf r)]
  cases r <;> simp [writeReg] at h ⊢

/-- Settles O18: the offsets of the first list are those of the read-only registers, the others name nothing. -/
theorem readOnlyAndReservedPlaces : Obligations.ReadOnlyAndReservedPlaces := by
  refine ⟨fun s v off h => ?_, fun s v off h => ?_⟩
  · have offsets : ([0x000, 0x01C, 0x034, 0x038, 0x03C, 0x040, 0x044] : List Offset) =
        [.id, .result, .curFrame, .curBy, .curBx, .capBits, .capBytes].map offsetOf := rfl
    rw [offsets] at h
    obtain ⟨r, hr, rfl⟩ := List.mem_map.1 h
    exact busWrite_readOnly hr v s
  · have ho := locOf_reserved h
    exact ⟨by rw [busWrite, ho], by simp [busRead, ho, wordAt, unspecifiedWhileBusy]⟩

/-! ## The `PIX` window -/

/-- While idle a write to a word of the `PIX` window stores it. -/
theorem busWrite_pix_whileIdle {s : State} (hb : s.busy = false) (w : Fin 16) (v : Word) :
    busWrite (BitVec.ofNat 12 (0x100 + 4 * w.val)) v s = putPixWord w v s := by
  rw [busWrite, locOf_pix]
  exact writeProtected_whileIdle hb _

/-- While idle a word of the `PIX` window reads as its four samples. -/
theorem busRead_pix_whileIdle {s : State} (hb : s.busy = false) (w : Fin 16) :
    busRead s (BitVec.ofNat 12 (0x100 + 4 * w.val)) = pixWord s w := by
  simp [busRead, hb, locOf_pix, wordAt]

/-- Byte `b` of a `PIX` window word is sample `4*w + b` (R49, R51). -/
theorem pixWord_byte (s : State) (w : Fin 16) (b : Fin 4) :
    (pixWord s w).extractLsb' (8 * b.val) 8 = sampleAt s (pixElt w b) := by
  rw [pixWord]
  match b with
  | 0 => exact BitVec.extractLsb'_append_eq_right
  | 1 => rw [BitVec.extractLsb'_append_eq_of_le (by decide)]; exact BitVec.extractLsb'_append_eq_right
  | 2 =>
    iterate 2 rw [BitVec.extractLsb'_append_eq_of_le (by decide)]
    exact BitVec.extractLsb'_append_eq_right
  | 3 =>
    iterate 3 rw [BitVec.extractLsb'_append_eq_of_le (by decide)]
    exact BitVec.extractLsb'_eq_self

/-- A write to window word `w` sets sample `4*w + b` to byte `b` of the word (R49). -/
theorem putPixWord_written (w : Fin 16) (v : Word) (s : State) (b : Fin 4) :
    (putPixWord w v s).pix[4 * w.val + b.val] = some (v.extractLsb' (8 * b.val) 8) := by
  have word : (4 * w.val + b.val) / 4 = w.val := by omega
  have byte : (4 * w.val + b.val) % 4 = b.val := by omega
  rw [putPixWord, pixWithWord_getElem, if_pos word, byte]

/-- A write to window word `w` leaves the samples of the other words (R49). -/
theorem putPixWord_others {w : Fin 16} {e : Fin 64} (h : e.val / 4 ≠ w.val) (v : Word) (s : State) :
    (putPixWord w v s).pix[e] = s.pix[e] :=
  (pixWithWord_getElem w v s.pix e.val e.isLt).trans (if_neg h)

/-- The four bytes of a word, put together again. -/
theorem append_bytes (v : Word) :
    ((v.extractLsb' 24 8 ++ v.extractLsb' 16 8) ++ v.extractLsb' 8 8) ++ v.extractLsb' 0 8 = v := by
  rw [BitVec.extractLsb'_append_extractLsb'_eq_extractLsb' (by decide : 24 = 16 + 8),
    BitVec.extractLsb'_append_extractLsb'_eq_extractLsb' (by decide : 16 = 8 + 8),
    BitVec.extractLsb'_append_extractLsb'_eq_extractLsb' (by decide : 8 = 0 + 8)]
  exact BitVec.extractLsb'_eq_self

/-- A `PIX` window word reads back as it was written (R49). -/
theorem pixWord_putPixWord (w : Fin 16) (v : Word) (s : State) : pixWord (putPixWord w v s) w = v := by
  have sample (b : Fin 4) : sampleAt (putPixWord w v s) (pixElt w b) = v.extractLsb' (8 * b.val) 8 :=
    congrArg (Option.getD · _) (putPixWord_written w v s b)
  rw [pixWord, sample, sample, sample, sample]
  exact append_bytes v

/-- Settles O15: the write is `putPixWord`, the read `pixWord`, and the indexing that of R10. -/
theorem pixWindowPacking : Obligations.PixWindowPacking := by
  refine ⟨fun s w v hb => ?_, fun s w b hb => ?_, elt_rowOf_colOf⟩
  · refine ⟨_, busWrite_pix_whileIdle hb w v, putPixWord_written w v s, fun e he => putPixWord_others he v s, rfl, ?_⟩
    exact (busRead_pix_whileIdle (s := putPixWord w v s) hb w).trans (pixWord_putPixWord w v s)
  · rw [busRead_pix_whileIdle hb]
    exact pixWord_byte s w b

/-! ## The `COEF` window -/

/-- While idle a write to a word of the `COEF` window stores it. -/
theorem busWrite_coef_whileIdle {s : State} (hb : s.busy = false) (w : Fin 32) (x : Word) :
    busWrite (BitVec.ofNat 12 (0x200 + 4 * w.val)) x s = putCoefWord w x s := by
  rw [busWrite, locOf_coef]
  exact writeProtected_whileIdle hb _

/-- While idle a word of the `COEF` window reads as its two coefficients. -/
theorem busRead_coef_whileIdle {s : State} (hb : s.busy = false) (w : Fin 32) :
    busRead s (BitVec.ofNat 12 (0x200 + 4 * w.val)) = coefWord s w := by
  simp [busRead, hb, locOf_coef, wordAt]

/-- The two halves of a `COEF` window word are coefficients `2*w` and `2*w + 1` (R50, R51). -/
theorem coefWord_halves (s : State) (w : Fin 32) :
    (coefWord s w).extractLsb' 0 16 = coeffAt s (coefElt w 0) ∧
    (coefWord s w).extractLsb' 16 16 = coeffAt s (coefElt w 1) :=
  ⟨BitVec.extractLsb'_append_eq_right, BitVec.extractLsb'_append_eq_left⟩

/-- A write to window word `w` sets coefficient `2*w + h` to half `h` of the word (R50). -/
theorem putCoefWord_written (w : Fin 32) (x : Word) (s : State) (h : Fin 2) :
    (putCoefWord w x s).coef[2 * w.val + h.val] = some (x.extractLsb' (16 * h.val) 16) := by
  have word : (2 * w.val + h.val) / 2 = w.val := by omega
  have half : (2 * w.val + h.val) % 2 = h.val := by omega
  rw [putCoefWord, coefWithWord_getElem, if_pos word, half]

/-- A write to window word `w` leaves the coefficients of the other words (R50). -/
theorem putCoefWord_others {w : Fin 32} {e : Fin 64} (h : e.val / 2 ≠ w.val) (x : Word) (s : State) :
    (putCoefWord w x s).coef[e] = s.coef[e] :=
  (coefWithWord_getElem w x s.coef e.val e.isLt).trans (if_neg h)

/-- The two halves of a word, put together again. -/
theorem append_halves (x : Word) : x.extractLsb' 16 16 ++ x.extractLsb' 0 16 = x :=
  (BitVec.extractLsb'_append_extractLsb'_eq_extractLsb' (by decide : 16 = 0 + 16)).trans BitVec.extractLsb'_eq_self

/-- A `COEF` window word reads back as it was written (R50). -/
theorem coefWord_putCoefWord (w : Fin 32) (x : Word) (s : State) : coefWord (putCoefWord w x s) w = x := by
  have coefficient (h : Fin 2) : coeffAt (putCoefWord w x s) (coefElt w h) = x.extractLsb' (16 * h.val) 16 :=
    congrArg (Option.getD · _) (putCoefWord_written w x s h)
  rw [coefWord, coefficient, coefficient]
  exact append_halves x

/-- Settles O16: the write is `putCoefWord`, the read `coefWord`, and the indexing that of R10. -/
theorem coefWindowPacking : Obligations.CoefWindowPacking := by
  refine ⟨fun s w x hb => ?_, fun s w hb => ?_, elt_rowOf_colOf⟩
  · refine ⟨_, busWrite_coef_whileIdle hb w x, putCoefWord_written w x s 0, putCoefWord_written w x s 1,
      fun e he => putCoefWord_others he x s, rfl, ?_⟩
    exact (busRead_coef_whileIdle (s := putCoefWord w x s) hb w).trans (coefWord_putCoefWord w x s)
  · rw [busRead_coef_whileIdle hb]
    exact coefWord_halves s w

end Sys2Proof.Machine
end

-- ==== Proofs of the family 30_encoding: the command words ====
section
namespace Sys2Proof

/-! ## The fields of a command word -/

/-- The test of R65 on the three fields of a word (R61 to R63): `B` may be 1 with the two embedding opcodes only. -/
def LegalFields (w : Word) : Prop :=
  rsvOf w = 0 ∧ opcOf w ≤ 0x08 ∧ (bOf w = 1 → opcOf w = 0x03 ∨ opcOf w = 0x05)

/-- A word is its three fields put together (R61). -/
theorem append_fields (w : Word) : (rsvOf w ++ bOf w) ++ opcOf w = w := by
  rw [rsvOf, bOf, opcOf, BitVec.extractLsb'_append_extractLsb'_eq_extractLsb' (by decide : 9 = 8 + 1),
    BitVec.extractLsb'_append_extractLsb'_eq_extractLsb' (by decide : 8 = 0 + 8)]
  exact BitVec.extractLsb'_eq_self

/-- A word whose fields pass the test decodes to the command they name (R66). -/
theorem decode_of_legalFields {w : Word} (h : LegalFields w) : decode w = .cmd (commandOf (opcOf w) (bOf w)) := by
  obtain ⟨hr, ho, hb⟩ := h
  have noStrayB : ¬ (bOf w = 1 ∧ opcOf w ≠ 0x03 ∧ opcOf w ≠ 0x05) := fun ⟨h1, h3, h5⟩ => (hb h1).elim h3 h5
  rw [decode, if_neg (not_not.2 hr), if_neg (BitVec.not_lt.2 ho), if_neg noStrayB]

/-- A word whose fields fail the test decodes to no command (R66). -/
theorem decode_of_not_legalFields {w : Word} (h : ¬ LegalFields w) (i : Instr) : decode w ≠ .cmd i := by
  unfold decode
  split
  · nofun
  · next hr =>
    split
    · nofun
    · next ho =>
      split
      · nofun
      · next hb => exact absurd ⟨not_not.1 hr, BitVec.not_lt.1 ho, fun _ => by tauto⟩ h

/-- A word decodes to a command exactly when its fields pass the test of R65, and then to the one they name (R66). -/
theorem decode_eq_cmd_iff (w : Word) (i : Instr) :
    decode w = .cmd i ↔ LegalFields w ∧ commandOf (opcOf w) (bOf w) = i := by
  by_cases h : LegalFields w
  · rw [decode_of_legalFields h, Decoded.cmd.injEq, and_iff_right h]
  · simp [h, decode_of_not_legalFields h i]

/-! ## Decoding and encoding -/

/-- The command that a legal opcode and bit name has that opcode and that bit (R63, R64). -/
theorem fields_commandOf {opc : BitVec 8} {b : BitVec 1} (ho : opc ≤ 0x08) (hb : b = 1 → opc = 0x03 ∨ opc = 0x05) :
    opcodeOf (commandOf opc b) = opc ∧ bitFieldOf (commandOf opc b) = b := by
  revert opc b
  decide

/-- Encoding the command of a legal word gives the word back. -/
theorem encode_commandOf {w : Word} (h : LegalFields w) : encode (commandOf (opcOf w) (bOf w)) = w := by
  obtain ⟨hr, ho, hb⟩ := h
  obtain ⟨hopc, hbit⟩ := fields_commandOf ho hb
  calc encode (commandOf (opcOf w) (bOf w)) = (rsvOf w ++ bOf w) ++ opcOf w := by rw [encode, hopc, hbit, hr]; rfl
    _ = w := append_fields w

/-- Every command's word decodes to the command (R61 to R66). -/
theorem decode_encode (i : Instr) : decode (encode i) = .cmd i := by
  cases i with
  | embed b | embedBlock b => revert b; decide
  | nop | fdct | idct | extract | extractBlock | cursor | capacity => decide

/-- Settles O3: a word that decodes is put together again from its fields, and a command's word decodes to it. -/
theorem decodeExactlyInvertsEncode : Obligations.DecodeExactlyInvertsEncode := by
  refine fun w i => ⟨fun h => ?_, fun h => h ▸ decode_encode i⟩
  obtain ⟨legal, rfl⟩ := (decode_eq_cmd_iff w i).1 h
  exact (encode_commandOf legal).symm

/-- The commands in the order of the opcode map (R64), the embedding ones with each value of `B`. -/
def allCommands : List Instr :=
  [.nop, .fdct, .idct, .embed 0, .embed 1, .extract, .embedBlock 0, .embedBlock 1, .extractBlock, .cursor, .capacity]

theorem mem_allCommands (i : Instr) : i ∈ allCommands := by
  cases i with
  | embed b | embedBlock b => revert b; decide
  | nop | fdct | idct | extract | extractBlock | cursor | capacity => decide

/-- Settles O2: the eleven rows are the commands, each with its encoding, and decoding inverts encoding. -/
theorem legalWordsAreExactlyTheEleven : Obligations.LegalWordsAreExactlyTheEleven := by
  intro w i
  have row : (w, i) ∈ allCommands.map (fun j => (encode j, j)) ↔ w = encode i := by
    simp [mem_allCommands, eq_comm]
  exact (decodeExactlyInvertsEncode w i).trans row.symm

/-- Settles O1: the seven legal words are encodings, the three others fail one test of the decoder each. -/
theorem specWordsDecodeToTheirCommands : Obligations.SpecWordsDecodeToTheirCommands :=
  ⟨decode_encode .nop, decode_encode .fdct, decode_encode .idct, decode_encode (.embed 1),
    decode_encode (.embedBlock 0), decode_encode .cursor, decode_encode .capacity,
    by decide, by decide, by decide⟩

end Sys2Proof
end

-- ==== Proofs of the family 30_encoding: issuing a command and loading a block ====
section
namespace Sys2Proof.Machine

/-! ## A write to `CMD` while idle -/

/-- While idle an illegal word is refused with `ILLEGAL_CMD` and `DONE` (R65, R112). -/
theorem writeCmd_illegal {w : Word} {s : State} (hb : s.busy = false) (hd : ∀ i, decode w ≠ .cmd i) :
    writeCmd w s = { setErr .illegalCmd s with done := true } := by
  obtain ⟨busy, _⟩ | ⟨_, e⟩ | ⟨_, ⟨i, legal⟩, _⟩ := writeCmd_cases w s
  · simp [hb] at busy
  · exact e
  · exact absurd legal (hd i)

/-- While idle a command's word is accepted (R34, R112). -/
theorem writeCmd_encode {s : State} (hb : s.busy = false) (i : Instr) :
    writeCmd (encode i) s = acceptCommand (encode i) s := by
  simp [writeCmd, hb, decode_encode]

/-- Settles O4: the test is that of the decoder's three fields, and the write to `CMD` the refusal. -/
theorem legalityTestAndRefusal : Obligations.LegalityTestAndRefusal := by
  refine ⟨fun w => ?_, fun w s hb hd => ?_⟩
  · have bit : bOf w = 1 ↔ w.getLsbD 8 = true := by
      simp [bOf, BitVec.eq_of_getLsbD_eq_iff]
    simp only [decode_eq_cmd_iff, exists_and_left, exists_eq', and_true, LegalFields, bit, imp_iff_not_or,
      Bool.not_eq_true]
    rfl
  · exact (busWrite_reg (locOf_offsetOf .cmd) w s).trans (writeCmd_illegal hb hd)

/-! ## Issuing a command -/

/-- The host's `CMD` write of a command while idle, as a step: the command is accepted (R34, R69). -/
theorem step_issue {s : State} {i : Instr} {rest : List HostOp} (hn : nextTurn s = .host) (hb : s.busy = false)
    (hs : s.script = issue i ++ rest) :
    step s = .next { acceptCommand (encode i) (dropTurn s) with script := rest, tick := s.tick + 1 } := by
  have accepted : busWrite (offsetOf .cmd) (encode i) (dropTurn s) = acceptCommand (encode i) (dropTurn s) :=
    (busWrite_reg (locOf_offsetOf .cmd) _ _).trans (writeCmd_encode (s := dropTurn s) hb i)
  rw [step_write hn (rest := rest) hs (by decide), accepted]

/-- Settles O10: the host's step accepts the command, and the engine's step executes what it latched. -/
theorem issuedCommandIsTheOneExecuted : Obligations.IssuedCommandIsTheOneExecuted := by
  intro i s rest ts hb hs ht
  have issued := step_issue (by rw [nextTurn, ht]) hb hs
  obtain ⟨runsLatched, _, _⟩ := stepRunsTheLatchedCommand
  obtain ⟨t, hexec, executed⟩ := runsLatched
    { acceptCommand (encode i) (dropTurn s) with script := rest, tick := s.tick + 1 } (encode i) i
    (by simp [nextTurn, ht]) rfl rfl (decode_encode i)
  refine ⟨t, ?_, ?_⟩
  · rw [← hexec]; simp [acceptCommand, dropTurn, ht]
  · rw [run_succ 1 issued, run_succ 0 executed, run_zero]

/-! ## Loading a block -/

/-- The samples `ps` with those of the first `n` window words taken from `p`. -/
@[irreducible] def loadWords (p : List Sample) (n : Nat) (ps : Block (Option Sample)) : Block (Option Sample) :=
  Vector.ofFn fun e : Fin 64 => if e.val / 4 < n then some (p.getD e.val 0) else ps[e]

theorem loadWords_getElem (p : List Sample) (n : Nat) (ps : Block (Option Sample)) (e : Fin 64) :
    (loadWords p n ps)[e] = if e.val / 4 < n then some (p.getD e.val 0) else ps[e] := by
  unfold loadWords; simp

theorem loadWords_zero (p : List Sample) (ps : Block (Option Sample)) : loadWords p 0 ps = ps :=
  block_ext fun e => loadWords_getElem p 0 ps e

/-- All sixteen words together hold `p` (R69). -/
theorem loadWords_all {p : List Sample} (hp : p.length = 64) (ps : Block (Option Sample)) (e : Fin 64) :
    (loadWords p 16 ps)[e] = p[e.val]? := by
  have he : e.val < p.length := by omega
  rw [loadWords_getElem, if_pos (by omega), List.getElem?_eq_getElem he, List.getD_eq_getElem p 0 he]

/-- A state with all sixteen words taken from `p` holds the samples of `p`. -/
theorem sampleAt_loadWords (p : List Sample) (s : State) (e : Fin 64) :
    sampleAt { s with pix := loadWords p 16 s.pix } e = p.getD e.val 0 := by
  rw [sampleAt, loadWords_getElem, if_pos (by omega), Option.getD_some]

/-- `LOADPIX` writes the words that a state with its samples reads in the `PIX` window (R49, R69). -/
theorem packSamples_eq_pixWord (p : List Sample) (w : Fin 16) (s : State) :
    packSamples p w.val = pixWord { s with pix := loadWords p 16 s.pix } w := by
  rw [pixWord, sampleAt_loadWords, sampleAt_loadWords, sampleAt_loadWords, sampleAt_loadWords]
  rfl

/-- Byte `e mod 4` of the word of `LOADPIX` that holds sample `e` is that sample of `p` (R69). -/
theorem packSamples_byte (p : List Sample) (w : Fin 16) (e : Fin 64) (h : e.val / 4 = w.val) :
    (packSamples p w.val).extractLsb' (8 * (e.val % 4)) 8 = p.getD e.val 0 := by
  have byte : pixElt w ⟨e.val % 4, by omega⟩ = e := Fin.ext (by simp only [pixElt]; omega)
  calc (packSamples p w.val).extractLsb' (8 * (e.val % 4)) 8
      = sampleAt { State.reset with pix := loadWords p 16 State.reset.pix } (pixElt w ⟨e.val % 4, by omega⟩) := by
        rw [packSamples_eq_pixWord p w State.reset, ← pixWord_byte]
    _ = p.getD e.val 0 := by rw [byte, sampleAt_loadWords]

/-- The write of window word `w` takes the samples of that word too (R49, R69). -/
theorem pixWithWord_loadWords (p : List Sample) (w : Fin 16) (ps : Block (Option Sample)) :
    pixWithWord w (packSamples p w.val) (loadWords p w.val ps) = loadWords p (w.val + 1) ps := by
  refine block_ext fun e => ?_
  rw [Fin.getElem_fin, pixWithWord_getElem, loadWords_getElem]
  by_cases h : e.val / 4 = w.val
  · rw [if_pos h, if_pos (by omega), packSamples_byte p w e h]
  · have earlier : e.val / 4 < w.val + 1 ↔ e.val / 4 < w.val := by omega
    rw [if_neg h]
    simp only [earlier]
    exact loadWords_getElem p w.val ps e

/-- The first `n` writes of `LOADPIX`, made while idle, take the samples of the first `n` words from `p` (R69). -/
theorem foldl_busWrite_loadPix (p : List Sample) {s : State} (hb : s.busy = false) {n : Nat} (hn : n ≤ 16) :
    (List.range n).foldl (fun u k => busWrite (placeOffset (.pix k)) (packSamples p k) u) s =
      { s with pix := loadWords p n s.pix } := by
  induction n with
  | zero => rw [loadWords_zero]; rfl
  | succ k ih =>
    rw [List.range_succ, List.foldl_append, ih (by omega)]
    have stored := busWrite_pix_whileIdle (s := { s with pix := loadWords p k s.pix }) hb ⟨k, hn⟩ (packSamples p k)
    rw [putPixWord, pixWithWord_loadWords p ⟨k, hn⟩] at stored
    exact stored

/-- Settles O25: after the sixteenth write every sample is taken from `p`. -/
theorem loadPixLoadsTheBlock : Obligations.LoadPixLoadsTheBlock := by
  refine fun s p hb hp => ⟨{ s with pix := loadWords p 16 s.pix }, ?_, loadWords_all hp s.pix, rfl⟩
  rw [expand, List.foldl_map]
  exact foldl_busWrite_loadPix p hb (Nat.le_refl 16)

end Sys2Proof.Machine
end

-- ==== Proofs of the family 40_transform: the table facts and the two transforms ====
section
namespace Sys2Proof.Machine

/-! ## The constant table -/

/-- Mirroring a row of the table keeps it in the even rows and changes its sign in the odd ones (R72). -/
theorem T_mirror : ∀ k n : Fin 8, T k (7 - n) = (-1) ^ k.val * T k n := by decide

theorem abs_T_le : ∀ k n : Fin 8, |T k n| ≤ 4017 := by decide

/-- The sums over a row that bound a forward stage (R72). -/
theorem rowAbsSum_le : ∀ k : Fin 8, ∑ n : Fin 8, |T k n| ≤ 23168 := by decide

/-- The sums over a column that bound an inverse stage (R72). -/
theorem colAbsSum_le : ∀ n : Fin 8, ∑ k : Fin 8, |T k n| ≤ 21641 := by decide

/-- Only the constant row has a sum that is not 0. -/
theorem rowSum_eq : ∀ k : Fin 8, ∑ n : Fin 8, T k n = if k = 0 then 23168 else 0 := by decide

/-- Settles O36: the bounds by the facts above, reached by `T[1][0]` and by row 0. -/
theorem tableFacts : Obligations.TableFacts :=
  ⟨T_mirror, abs_T_le, ⟨1, 0, by decide⟩, rowAbsSum_le, by decide, colAbsSum_le⟩

/-! ## The transforms as sums -/

/-- Stage 1 of the forward transform (R73). -/
theorem fdctRows_eq_sum (x : Matrix) (i v : Fin 8) : fdctRows x i v = rsr (∑ n, x i n * T v n) 10 := by
  rw [fdctRows, sum8_eq_sum]

/-- Stage 2 of the forward transform (R74). -/
theorem fdct_eq_sum (x : Matrix) (u v : Fin 8) : fdct x u v = rsr (∑ i, T u i * fdctRows x i v) 13 := by
  rw [fdct, fdctCols, sum8_eq_sum]

/-- Stage 1 of the inverse transform (R76). -/
theorem idctCols_eq_sum (y : Matrix) (i v : Fin 8) : idctCols y i v = rsr (∑ u, T u i * y u v) 13 := by
  rw [idctCols, sum8_eq_sum]

/-- Stage 2 of the inverse transform (R77). -/
theorem idct_eq_sum (y : Matrix) (i j : Fin 8) : idct y i j = rsr (∑ v, idctCols y i v * T v j) 16 := by
  rw [idct, idctRows, sum8_eq_sum]

/-- The element of row `u`, column `v` of a stored coefficient block (R80). -/
theorem storedCoef_elt (y : Matrix) (u v : Fin 8) : (storedCoef y)[elt u v] = some (s16 (y u v)) := by
  rw [storedCoef, Fin.getElem_fin, tabulate_getElem, Fin.eta, rowOf_elt, colOf_elt]

/-- The element of row `i`, column `j` of a clipped sample block (R79). -/
theorem clippedPix_elt (p : Matrix) (i j : Fin 8) :
    (clippedPix p)[elt i j] = some (BitVec.ofInt 8 (clamp (p i j) 0 255)) := by
  rw [clippedPix, Fin.getElem_fin, tabulate_getElem, Fin.eta, rowOf_elt, colOf_elt]

/-! ## What `FDCT` and `IDCT` do -/

/-- Settles O38: the stored coefficients are the forward transform of the samples, written as sums. -/
theorem fdctResult : Obligations.FdctResult := by
  refine fun s => ⟨_, rfl, fun u v => (storedCoef_elt _ u v).trans ?_, rfl⟩
  simp only [fdct_eq_sum, fdctRows_eq_sum]
  rfl

/-- Settles O41: the samples are the inverse transform of the coefficients, written as sums and clamped. -/
theorem idctResult : Obligations.IdctResult := by
  refine fun s => ⟨_, idct (coeffs s), rfl, fun i j => ?_, fun i j => ⟨_, clippedPix_elt _ i j, toNat_clamp _⟩,
    isClipped_iff _, rfl⟩
  simp only [idct_eq_sum, idctCols_eq_sum]
  rfl

/-! ## The ranges -/

/-- A sum of products is bounded by the bound on one factor times the absolute sum of the other. -/
theorem abs_sum_mul_le {x t : Fin 8 → Int} {b c : Int} (hx : ∀ n, |x n| ≤ b) (ht : ∑ n, |t n| ≤ c) :
    |∑ n, x n * t n| ≤ b * c := by
  have hb : 0 ≤ b := (abs_nonneg _).trans (hx 0)
  calc |∑ n, x n * t n| ≤ ∑ n, |x n * t n| := Finset.abs_sum_le_sum_abs _ _
    _ ≤ ∑ n, b * |t n| := Finset.sum_le_sum fun n _ => by
        rw [abs_mul]; exact mul_le_mul_of_nonneg_right (hx n) (abs_nonneg _)
    _ = b * ∑ n, |t n| := (Finset.mul_sum _ _ _).symm
    _ ≤ b * c := mul_le_mul_of_nonneg_left ht hb

/-- Rounding does not take a value out of the range that the rounded bound gives (R9). -/
theorem abs_rsr_le {a m : Int} (h : |a| ≤ m) (s : Nat) : |rsr a (s + 1)| ≤ rsr m (s + 1) := by
  obtain ⟨hlow, hhigh⟩ := abs_le.1 h
  have half : (2 : Int) ^ (s + 1) = 2 * 2 ^ s := pow_succ' 2 s
  have pos : (0 : Int) < 2 ^ (s + 1) := by positivity
  have floor := Int.lt_ediv_add_one_mul_self (m + 2 ^ s) pos
  rw [rsr, rsr, Nat.add_sub_cancel, abs_le]
  refine ⟨(Int.le_ediv_iff_mul_le pos).2 ?_, Int.ediv_le_ediv pos (by omega)⟩
  linarith

/-- R75, stage 1. -/
theorem abs_fdctRowSum_le {x : Matrix} (hx : ∀ i n, |x i n| ≤ 255) (i v : Fin 8) :
    |∑ n, x i n * T v n| ≤ 5907840 :=
  abs_sum_mul_le (hx i) (rowAbsSum_le v)

theorem abs_fdctRows_le {x : Matrix} (hx : ∀ i n, |x i n| ≤ 255) (i v : Fin 8) : |fdctRows x i v| ≤ 5769 := by
  rw [fdctRows_eq_sum]
  exact abs_rsr_le (abs_fdctRowSum_le hx i v) 9

/-- R75, stage 2. -/
theorem abs_fdctColSum_le {x : Matrix} (hx : ∀ i n, |x i n| ≤ 255) (u v : Fin 8) :
    |∑ i, T u i * fdctRows x i v| ≤ 133656192 := by
  simp only [mul_comm (T u _)]
  exact abs_sum_mul_le (fun i => abs_fdctRows_le hx i v) (rowAbsSum_le u)

theorem abs_fdct_le {x : Matrix} (hx : ∀ i n, |x i n| ≤ 255) (u v : Fin 8) : |fdct x u v| ≤ 16315 := by
  rw [fdct_eq_sum]
  exact abs_rsr_le (abs_fdctColSum_le hx u v) 12

/-- R78, stage 1. -/
theorem abs_idctColSum_le {y : Matrix} (hy : ∀ u v, |y u v| ≤ 32768) (i v : Fin 8) :
    |∑ u, T u i * y u v| ≤ 709132288 := by
  simp only [mul_comm (T _ i)]
  exact abs_sum_mul_le (fun u => hy u v) (colAbsSum_le i)

theorem abs_idctCols_le {y : Matrix} (hy : ∀ u v, |y u v| ≤ 32768) (i v : Fin 8) : |idctCols y i v| ≤ 86564 := by
  rw [idctCols_eq_sum]
  exact abs_rsr_le (abs_idctColSum_le hy i v) 12

/-- R78, stage 2. -/
theorem abs_idctRowSum_le {y : Matrix} (hy : ∀ u v, |y u v| ≤ 32768) (i j : Fin 8) :
    |∑ v, idctCols y i v * T v j| ≤ 1873331524 :=
  abs_sum_mul_le (abs_idctCols_le hy i) (colAbsSum_le j)

/-- Settles O42: each stage is bounded by the bound on its input and the column sums of the table. -/
theorem idctStaysInRange : Obligations.IdctStaysInRange := by
  intro y hy i j v
  have hy' (u v) : |y u v| ≤ 32768 := abs_le.2 ⟨(hy u v).1, (hy u v).2.trans (by decide)⟩
  have hsum := abs_idctRowSum_le hy' i j
  refine ⟨abs_idctColSum_le hy' i v, abs_idctCols_le hy' i v, hsum, ?_⟩
  calc ∑ w, idctCols y i w * T w j + 2 ^ 15 ≤ 1873331524 + 2 ^ 15 := by gcongr; exact (abs_le.1 hsum).2
    _ < 2 ^ 31 := by decide

/-! ## The uniform block -/

/-- The forward transform of a uniform block is 0 but at `[0][0]` (R80, corner cases). -/
theorem fdct_uniform (c : Int) (u v : Fin 8) :
    fdct (fun _ _ => c) u v = if u = 0 ∧ v = 0 then rsr (23168 * rsr (c * 23168) 10) 13 else 0 := by
  have rows (i : Fin 8) : fdctRows (fun _ _ => c) i v = if v = 0 then rsr (c * 23168) 10 else 0 := by
    rw [fdctRows_eq_sum, ← Finset.mul_sum, rowSum_eq]
    split
    · rfl
    · simp [rsr]
  rw [fdct_eq_sum]
  simp only [rows, ← Finset.sum_mul, rowSum_eq]
  by_cases hu : u = 0 <;> by_cases hv : v = 0 <;> simp [hu, hv, rsr]

/-- Settles O39: each stage is bounded by the bound on its input and the row sums of the table; the block that reaches
the largest value is uniform. -/
theorem fdctStaysInRange : Obligations.FdctStaysInRange := by
  refine ⟨fun x hx u v i => ?_, fdct_uniform 255 0 0⟩
  have hx' (i n) : |x i n| ≤ 255 := abs_le.2 ⟨by linarith [(hx i n).1], (hx i n).2⟩
  have hfdct := abs_fdct_le hx' u v
  obtain ⟨hlow, hhigh⟩ := abs_le.1 hfdct
  refine ⟨abs_fdctRowSum_le hx' i v, abs_fdctRows_le hx' i v, abs_fdctColSum_le hx' u v,
    hfdct.trans (by decide), hhigh, toInt_s16 ?_⟩
  simp only [inS16, Bool.and_eq_true, decide_eq_true_eq]
  omega

/-- Settles O40: the samples are a uniform block, whose transform is known. -/
theorem fdctOfAUniformBlock : Obligations.FdctOfAUniformBlock := by
  intro s c hc
  have uniform : samples s = fun _ _ => zext c := by
    funext i j
    rw [samples, hc]
  have stored (u v : Fin 8) : (storedCoef (fdct (samples s)))[elt u v] =
      some (s16 (if u = 0 ∧ v = 0 then rsr (23168 * rsr (zext c * 23168) 10) 13 else 0)) := by
    rw [storedCoef_elt, uniform, fdct_uniform]
  refine ⟨_, rfl, fun u v huv => (stored u v).trans ?_, ?_, ?_⟩
  · rw [if_neg fun h => huv (Prod.ext h.1 h.2)]
    rfl
  · rintro rfl
    exact stored 0 0
  · rintro rfl
    exact stored 0 0

end Sys2Proof.Machine
end

-- ==== Proofs of the family 40_transform: the constant table is the rounded cosine ====
section
namespace Sys2Proof.Machine

/-! ## Integers nearest to a real number -/

/-- `t` is the integer nearest to `x`, and `x` is no tie (R71). -/
def RoundsTo (x : ℝ) (t : Int) : Prop := |(t : ℝ) - x| < 1 / 2

theorem RoundsTo.neg {x : ℝ} {t : Int} (h : RoundsTo x t) : RoundsTo (-x) (-t) := by
  rw [RoundsTo, Int.cast_neg, neg_sub_neg, abs_sub_comm]
  exact h

/-! ## The cosines of the multiples of `pi / 16` -/

/-- `2^13 * (1/2) * cos(m pi / 16)`: every entry of the table rounds one of these. -/
noncomputable def scaledCos (m : ℕ) : ℝ := 4096 * Real.cos (m * Real.pi / 16)

theorem scaledCos_reflect {m : ℕ} (h : m ≤ 16) : scaledCos (16 - m) = -scaledCos m := by
  have angle : ((16 - m : ℕ) : ℝ) * Real.pi / 16 = Real.pi - m * Real.pi / 16 := by
    push_cast [h]; ring
  rw [scaledCos, scaledCos, angle, Real.cos_pi_sub, mul_neg]

theorem scaledCos_mod (m : ℕ) : scaledCos (m % 32) = scaledCos m := by
  have turns : (m : ℝ) = (m % 32 : ℕ) + 32 * (m / 32 : ℕ) := by exact_mod_cast (Nat.mod_add_div m 32).symm
  have angle : (m : ℝ) * Real.pi / 16 = (m % 32 : ℕ) * Real.pi / 16 + (m / 32 : ℕ) * (2 * Real.pi) := by
    rw [turns]; ring
  rw [scaledCos, scaledCos, angle, Real.cos_add_nat_mul_two_pi]

theorem scaledCos_thirtytwo_sub {m : ℕ} (h : m ≤ 32) : scaledCos (32 - m) = scaledCos m := by
  have angle : ((32 - m : ℕ) : ℝ) * Real.pi / 16 = 2 * Real.pi - m * Real.pi / 16 := by
    push_cast [h]; ring
  rw [scaledCos, scaledCos, angle, Real.cos_two_pi_sub]

/-- The double angle formula. -/
theorem scaledCos_sq (m : ℕ) : scaledCos m ^ 2 = 2048 * (4096 + scaledCos (2 * m)) := by
  have angle : ((2 * m : ℕ) : ℝ) * Real.pi / 16 = 2 * (m * Real.pi / 16) := by push_cast; ring
  rw [scaledCos, scaledCos, angle, mul_pow, Real.cos_sq]
  ring

theorem scaledCos_nonneg {m : ℕ} (h : m ≤ 8) : 0 ≤ scaledCos m := by
  have hm : (m : ℝ) ≤ 8 := by exact_mod_cast h
  have quarter : (m : ℝ) * Real.pi ≤ 8 * Real.pi := mul_le_mul_of_nonneg_right hm Real.pi_pos.le
  have below : -(Real.pi / 2) ≤ 0 := by linarith [Real.pi_pos]
  exact mul_nonneg (by norm_num)
    (Real.cos_nonneg_of_mem_Icc ⟨below.trans (by positivity), by linarith⟩)

/-- Bounds on the cosine of the double angle bound the cosine. -/
theorem scaledCos_between {m : ℕ} (hm : m ≤ 8) {lo hi : ℝ} (hhi : 0 ≤ hi)
    (h : lo ^ 2 < 2048 * (4096 + scaledCos (2 * m)) ∧ 2048 * (4096 + scaledCos (2 * m)) < hi ^ 2) :
    lo < scaledCos m ∧ scaledCos m < hi := by
  rw [← scaledCos_sq] at h
  exact ⟨lt_of_pow_lt_pow_left₀ 2 (scaledCos_nonneg hm) h.1, lt_of_pow_lt_pow_left₀ 2 hhi h.2⟩

theorem scaledCos_zero : scaledCos 0 = 4096 := by simp [scaledCos]

theorem scaledCos_eight : scaledCos 8 = 0 := by
  linarith [scaledCos_reflect (m := 8) (by decide)]

theorem scaledCos_four_between : 2896.3 < scaledCos 4 ∧ scaledCos 4 < 2896.32 :=
  scaledCos_between (by decide) (by norm_num) (by rw [scaledCos_eight]; norm_num)

theorem scaledCos_two_between : 3784.2 < scaledCos 2 ∧ scaledCos 2 < 3784.3 := by
  obtain ⟨hlow, hhigh⟩ := scaledCos_four_between
  refine scaledCos_between (by decide) (by norm_num) ⟨?_, ?_⟩ <;> norm_num <;> linarith

theorem scaledCos_six_between : 1567.4 < scaledCos 6 ∧ scaledCos 6 < 1567.49 := by
  obtain ⟨hlow, hhigh⟩ := scaledCos_four_between
  have double : scaledCos 12 = -scaledCos 4 := scaledCos_reflect (m := 4) (by decide)
  refine scaledCos_between (by decide) (by norm_num) ⟨?_, ?_⟩ <;> norm_num [double] <;> linarith

/-- The first quarter turn of the cosine in units of the table, rounded (R71). -/
def quarterTurn : List Int := [4096, 4017, 3784, 3406, 2896, 2276, 1567, 799, 0]

/-- The entry `t` rounds the cosine when its neighbours `t - 1/2` and `t + 1/2` bound it, seen at the double angle. -/
theorem roundsTo_scaledCos {m : ℕ} (hm : m ≤ 8) {t : Int} (ht : 0 ≤ t)
    (h : ((t : ℝ) - 1 / 2) ^ 2 < 2048 * (4096 + scaledCos (2 * m)) ∧
      2048 * (4096 + scaledCos (2 * m)) < ((t : ℝ) + 1 / 2) ^ 2) : RoundsTo (scaledCos m) t := by
  have ht' : (0 : ℝ) ≤ t := by exact_mod_cast ht
  obtain ⟨below, above⟩ := scaledCos_between hm (by linarith) h
  rw [RoundsTo, abs_lt]
  constructor <;> linarith

/-- Each entry of the quarter turn, from the bounds at its double angle. -/
theorem roundsTo_quarterTurn {m : ℕ} (h : m ≤ 8) : RoundsTo (scaledCos m) (quarterTurn.getD m 0) := by
  obtain ⟨twoLow, twoHigh⟩ := scaledCos_two_between
  obtain ⟨fourLow, fourHigh⟩ := scaledCos_four_between
  obtain ⟨sixLow, sixHigh⟩ := scaledCos_six_between
  have ten : scaledCos 10 = -scaledCos 6 := scaledCos_reflect (m := 6) (by decide)
  have twelve : scaledCos 12 = -scaledCos 4 := scaledCos_reflect (m := 4) (by decide)
  have fourteen : scaledCos 14 = -scaledCos 2 := scaledCos_reflect (m := 2) (by decide)
  match m with
  | 0 => simp [RoundsTo, quarterTurn, scaledCos_zero]
  | 8 => simp [RoundsTo, quarterTurn, scaledCos_eight]
  | 1 | 2 | 3 | 4 | 5 | 6 | 7 =>
    refine roundsTo_scaledCos h (by decide) ⟨?_, ?_⟩ <;>
      norm_num [quarterTurn, scaledCos_eight, ten, twelve, fourteen] <;> linarith

/-! ## The whole turn and the table -/

/-- The cosine of `m pi / 16` in units of the table, rounded: the angle brought to the first half turn, and from there
to the first quarter. -/
def roundedCos (m : ℕ) : Int :=
  let r := min (m % 32) (32 - m % 32)
  if r ≤ 8 then quarterTurn.getD r 0 else -quarterTurn.getD (16 - r) 0

theorem roundsTo_roundedCos (m : ℕ) : RoundsTo (scaledCos m) (roundedCos m) := by
  have folded : scaledCos (min (m % 32) (32 - m % 32)) = scaledCos m := by
    rcases min_choice (m % 32) (32 - m % 32) with e | e <;> rw [e]
    · exact scaledCos_mod m
    · rw [scaledCos_thirtytwo_sub (Nat.mod_lt m (by decide)).le, scaledCos_mod]
  have half : min (m % 32) (32 - m % 32) ≤ 16 := by omega
  rw [← folded, roundedCos]
  generalize min (m % 32) (32 - m % 32) = r at half
  by_cases h : r ≤ 8
  · rw [if_pos h]
    exact roundsTo_quarterTurn h
  · have reflected : scaledCos r = -scaledCos (16 - r) := by rw [scaledCos_reflect half, neg_neg]
    rw [if_neg h, reflected]
    exact (roundsTo_quarterTurn (by omega)).neg

/-- The multiple of `pi / 16` at which entry `[k][n]` is the rounded `scaledCos`; row 0 stands for `cos (pi / 4)`, since
`2^13 * sqrt(1/8) = 2^12 * cos (pi / 4)`. -/
def entryAngle (k n : Fin 8) : ℕ := if k = 0 then 4 else (2 * n.val + 1) * k.val

theorem T_eq_roundedCos : ∀ k n : Fin 8, T k n = roundedCos (entryAngle k n) := by decide

theorem scaledCos_four : scaledCos 4 = 2 ^ 13 * Real.sqrt (1 / 8) := by
  have square : scaledCos 4 ^ 2 = (2 ^ 13 * Real.sqrt (1 / 8)) ^ 2 := by
    rw [scaledCos_sq, scaledCos_eight, mul_pow, Real.sq_sqrt (by norm_num)]
    norm_num
  exact (pow_left_inj₀ (scaledCos_nonneg (by decide)) (by positivity) two_ne_zero).1 square

/-- The formula of R71 is `scaledCos` at the entry's angle. -/
theorem tableFormula_eq (k n : Fin 8) :
    2 ^ 13 * (if k = 0 then Real.sqrt (1 / 8) else 1 / 2) *
      Real.cos ((2 * (n.val : ℝ) + 1) * (k.val : ℝ) * Real.pi / 16) = scaledCos (entryAngle k n) := by
  by_cases h : k = 0
  · simp [h, entryAngle, scaledCos_four]
  · simp only [h, if_false, entryAngle, scaledCos]
    push_cast
    ring

/-- Settles O37: entry by entry the table is the rounded cosine, and the formula the cosine itself. -/
theorem tableIsTheRoundedCosineTable : Obligations.TableIsTheRoundedCosineTable := by
  intro k n
  rw [tableFormula_eq, T_eq_roundedCos]
  exact roundsTo_roundedCos _

end Sys2Proof.Machine
end

-- ==== Proofs of the family 40_transform: the frame of every command ====
section
namespace Sys2Proof.Machine

/-! ## What each command writes -/

/-- `CommandWrites s i u`: `u` is `s` with writes to the places that the rule of command `i` lets it write, whatever
it writes there (R80, R81, R89 to R92, R98, R102, R105); `BUSY`, `DONE` and the latch are not among them (R111). -/
inductive CommandWrites (s : State) : Instr → State → Prop
  | nop : CommandWrites s .nop s
  | fdct (c : Block (Option Coeff)) : CommandWrites s .fdct { s with coef := c }
  | idct (p : Block (Option Sample)) (k : Bool) : CommandWrites s .idct { s with pix := p, clip := k }
  | embed (b : BitVec 1) (a' b' : Int) : CommandWrites s (.embed b) (storePair s a' b')
  | extract (r : BitVec 1) : CommandWrites s .extract { s with resultBit := r }
  | embedBlock (b : BitVec 1) (y : Matrix) : CommandWrites s (.embedBlock b) (storeEmbeddedBlock s y)
  | extractBlock (c : Block (Option Coeff)) (r : BitVec 1) :
      CommandWrites s .extractBlock { s with coef := c, resultBit := r }
  | cursor (f : Word) (y x : Half) : CommandWrites s .cursor { s with curFrame := f, curBy := y, curBx := x }
  | capacity (b n : Word) : CommandWrites s .capacity { s with capBits := b, capBytes := n }

/-- Every command's engine step ends with an error and no writes, or completes after writes of its own: `exec_cases`
with the writes told apart by command. -/
theorem exec_writes (i : Instr) (s : State) :
    (∃ c, exec i s = .next (raiseErr c s)) ∨ ∃ u, CommandWrites s i u ∧ exec i s = .next (complete u) := by
  cases i with
  | nop => exact .inr ⟨_, .nop, rfl⟩
  | fdct => exact .inr ⟨_, .fdct _, rfl⟩
  | idct => exact .inr ⟨_, .idct _ _, rfl⟩
  | capacity => exact .inr ⟨_, .capacity _ _, rfl⟩
  | cursor =>
    simp only [exec, execCursor]
    split
    · exact .inl ⟨_, rfl⟩
    · exact .inr ⟨_, .cursor _ _ _, rfl⟩
  | extract =>
    simp only [exec, execExtract]
    split
    · exact .inl ⟨_, rfl⟩
    · exact .inr ⟨_, .extract _, rfl⟩
  | extractBlock =>
    simp only [exec, execExtractBlock]
    split
    · exact .inl ⟨_, rfl⟩
    · exact .inr ⟨_, .extractBlock _ _, rfl⟩
  | embed b =>
    simp only [exec, execEmbed]
    split
    · exact .inl ⟨_, rfl⟩
    · split
      · exact .inl ⟨_, rfl⟩
      · exact .inr ⟨_, .embed _ _ _, rfl⟩
  | embedBlock b =>
    simp only [exec, execEmbedBlock]
    split
    · exact .inl ⟨_, rfl⟩
    · split
      · exact .inl ⟨_, rfl⟩
      · exact .inr ⟨_, .embedBlock _ _, rfl⟩

/-! ## What each command leaves -/

/-- `BUSY`, `DONE` and `ERR` show in the window at `STATUS` only, and the latch nowhere (R33, R45): a place that is not
`STATUS` holds the same word however a command ends (R111). -/
theorem wordAt_ended {l : Loc} (h : l ≠ .reg .status) (s : State) (err : ErrCode) :
    wordAt { s with busy := false, done := true, latch := none, err := err } l = wordAt s l := by
  cases l with
  | reg r =>
    cases r
    case status => exact absurd rfl h
    all_goals rfl
  | pix | coef | reserved => rfl

/-- The pair write leaves the window words that hold neither of the two coefficients (R89). -/
theorem coefWord_storePair {s : State} {w : Fin 32} (ha : (elt (ua s) (va s)).val / 2 ≠ w.val)
    (hb : (elt (ub s) (vb s)).val / 2 ≠ w.val) (a' b' : Int) : coefWord (storePair s a' b') w = coefWord s w := by
  have kept (h : Fin 2) : coeffAt (storePair s a' b') (coefElt w h) = coeffAt s (coefElt w h) := by
    have word : (coefElt w h).val / 2 = w.val := by simp only [coefElt]; omega
    rw [coeffAt, storePair_coef, Fin.getElem_fin, coefWithPair_getElem, if_neg (by omega), if_neg (by omega)]
    rfl
  rw [coefWord, kept, kept, coefWord]

/-- The writes of a command leave the words of the places it does not write. -/
theorem CommandWrites.wordAt_eq {s u : State} {i : Instr} (h : CommandWrites s i u) {l : Loc}
    (hl : writesPlace i s l = false) : wordAt u l = wordAt s l := by
  cases l with
  | reserved => rfl
  | pix w =>
    cases h with
    | idct | embedBlock => cases hl
    | nop | fdct | embed | extract | extractBlock | cursor | capacity => rfl
  | coef w =>
    cases h with
    | fdct | embedBlock | extractBlock => cases hl
    | nop | idct | extract | cursor | capacity => rfl
    | embed b a' b' =>
      simp only [writesPlace, Bool.or_eq_false_iff, decide_eq_false_iff_not] at hl
      obtain ⟨ha, hb⟩ := hl
      exact coefWord_storePair ha hb a' b'
  | reg r =>
    cases r with
    | status => cases hl
    | result =>
      cases h with
      | extract | extractBlock => cases hl
      | nop | fdct | idct | embed | embedBlock | cursor | capacity => rfl
    | curFrame | curBy | curBx =>
      cases h with
      | cursor => cases hl
      | nop | fdct | idct | embed | extract | embedBlock | extractBlock | capacity => rfl
    | capBits | capBytes =>
      cases h with
      | capacity => cases hl
      | nop | fdct | idct | embed | extract | embedBlock | extractBlock | cursor => rfl
    | id | ctrl | cmd | pos | step | margin | frameW | frameH | frameCnt | hdrW | kidx => cases h <;> rfl

/-- Settles O27: ending a command shows at `STATUS` only, and the command's own writes at their places. -/
theorem commandsLeaveOtherPlacesAlone : Obligations.CommandsLeaveOtherPlacesAlone := by
  intro i s
  have notStatus {off : Offset} (h : writesPlace i s (locOf off) = false) : locOf off ≠ .reg .status :=
    fun e => by simp [e, writesPlace] at h
  obtain ⟨c, he⟩ | ⟨u, hu, he⟩ := exec_writes i s
  · exact ⟨_, he, fun off h => wordAt_ended (notStatus h) s _⟩
  · exact ⟨_, he, fun off h => (wordAt_ended (notStatus h) u u.err).trans (hu.wordAt_eq h)⟩

end Sys2Proof.Machine
end

-- ==== Proofs of the family 41_embed_extract: the coefficient pair ====
section
namespace Sys2Proof.Machine

/-! ## The nudge -/

/-- The whole number `k` of steps by which R87 moves each value of a pair with gap `g`. -/
def nudgeSteps (g S M : Int) : Int := if g < M then ceilDiv (M - g) (2 * S) else 0

theorem nudgeSteps_of_lt {g M : Int} (h : g < M) (S : Int) :
    nudgeSteps g S M = (M - g + 2 * S - 1) / (2 * S) := by rw [nudgeSteps, if_pos h, ceilDiv]

theorem nudgeSteps_of_ge {g M : Int} (h : M ≤ g) (S : Int) : nudgeSteps g S M = 0 := if_neg h.not_gt

/-- `ceil_div(a, b) * b` is the least multiple of `b` that is at least `a` (R8). -/
theorem ceilDiv_mul_bounds (a : Int) {b : Int} (hb : 0 < b) : a ≤ ceilDiv a b * b ∧ ceilDiv a b * b < a + b := by
  have low := Int.lt_ediv_add_one_mul_self (a + b - 1) hb
  have high := Int.ediv_mul_le (a + b - 1) hb.ne'
  rw [add_mul, one_mul] at low
  rw [ceilDiv]
  omega

/-- The nudge closes a gap that is too small, by less than a step more than needed (R93). -/
theorem nudgeSteps_bounds {g S M : Int} (hS : 1 ≤ S) (h : g < M) :
    M - g ≤ 2 * (nudgeSteps g S M * S) ∧ 2 * (nudgeSteps g S M * S) < M - g + 2 * S := by
  have bounds := ceilDiv_mul_bounds (M - g) (show 0 < 2 * S by omega)
  rwa [nudgeSteps, if_pos h, mul_left_comm 2]

theorem nudge_nonneg {S : Int} (hS : 1 ≤ S) (g M : Int) : 0 ≤ nudgeSteps g S M * S := by
  obtain h | h := lt_or_ge g M
  · have := nudgeSteps_bounds hS h
    omega
  · rw [nudgeSteps_of_ge h, zero_mul]

/-- After the nudge the gap is at least `M` (R93). -/
theorem gap_after_nudge {S : Int} (hS : 1 ≤ S) (g M : Int) : M ≤ g + 2 * (nudgeSteps g S M * S) := by
  obtain h | h := lt_or_ge g M
  · have := nudgeSteps_bounds hS h
    omega
  · rw [nudgeSteps_of_ge h]
    omega

/-! ## The pair that is stored -/

/-- The larger of the two values R87 computes, before the range test. -/
def spreadHigh (a b S M : Int) : Int := max a b + nudgeSteps |a - b| S M * S

/-- The smaller of the two values R87 computes, before the range test. -/
def spreadLow (a b S M : Int) : Int := min a b - nudgeSteps |a - b| S M * S

theorem orderPair_eq (p q : Int) : orderPair p q = (max p q, min p q) := by
  rw [orderPair]
  split
  · rw [max_eq_right (by omega), min_eq_left (by omega)]
  · rw [max_eq_left (by omega), min_eq_right (by omega)]

theorem nudgePair_eq (p q S M : Int) :
    nudgePair p q S M = (p + nudgeSteps (p - q) S M * S, q - nudgeSteps (p - q) S M * S) := by
  simp only [nudgePair, nudgeSteps]
  split <;> simp

theorem spreadPair_eq (a b S M : Int) : spreadPair a b S M = (spreadHigh a b S M, spreadLow a b S M) := by
  rw [spreadPair, orderPair_eq, nudgePair_eq, max_sub_min_eq_abs', spreadHigh, spreadLow]

theorem spreadPair_comm (a b S M : Int) : spreadPair b a S M = spreadPair a b S M := by
  simp only [spreadPair, orderPair_eq, max_comm, min_comm]

theorem inS16_iff (v : Int) : inS16 v = true ↔ -32768 ≤ v ∧ v ≤ 32767 := by
  simp only [inS16, Bool.and_eq_true, decide_eq_true_eq]

/-- R87 as one range test: both bits store the same two values, the larger one at A for bit 1 and at B for bit 0. -/
theorem embedPair_eq (a b S M : Int) (bit : BitVec 1) :
    embedPair a b bit S M =
      if inS16 (spreadHigh a b S M) = true ∧ inS16 (spreadLow a b S M) = true then
        some (if bit = 1 then (spreadHigh a b S M, spreadLow a b S M) else (spreadLow a b S M, spreadHigh a b S M))
      else none := by
  simp only [embedPair, spreadPair_comm a b, ite_self, spreadPair_eq, Bool.and_eq_true]

/-- What a successful `embed_pair` returns, and that it fits a coefficient. -/
theorem embedPair_some {a b S M a' b' : Int} {bit : BitVec 1} (h : embedPair a b bit S M = some (a', b')) :
    inS16 a' = true ∧ inS16 b' = true ∧
      (bit = 1 ∧ a' = spreadHigh a b S M ∧ b' = spreadLow a b S M ∨
        bit = 0 ∧ a' = spreadLow a b S M ∧ b' = spreadHigh a b S M) := by
  rw [embedPair_eq] at h
  split at h
  · obtain ⟨high, low⟩ := ‹_ ∧ _›
    obtain rfl | rfl := BitVec.eq_zero_or_eq_one bit
    · cases h
      exact ⟨low, high, .inr ⟨rfl, rfl, rfl⟩⟩
    · cases h
      exact ⟨high, low, .inl ⟨rfl, rfl, rfl⟩⟩
  · cases h

/-- The two values R87 computes lie at least `M` apart. -/
theorem spread_gap {S : Int} (hS : 1 ≤ S) (a b M : Int) : M ≤ spreadHigh a b S M - spreadLow a b S M := by
  have gap := gap_after_nudge hS |a - b| M
  rw [spreadHigh, spreadLow]
  have := max_sub_min_eq_abs' a b
  omega

/-- The swap and the symmetric nudge keep the sum (R93). -/
theorem spread_sum (a b S M : Int) : spreadHigh a b S M + spreadLow a b S M = a + b := by
  rw [spreadHigh, spreadLow, add_add_sub_cancel, max_add_min]

/-- A pair with a gap of at least `M` is at most swapped (R93). -/
theorem spread_of_far {a b M : Int} (h : M ≤ |a - b|) (S : Int) :
    spreadHigh a b S M = max a b ∧ spreadLow a b S M = min a b := by
  simp only [spreadHigh, spreadLow, nudgeSteps_of_ge h, zero_mul, add_zero, sub_zero, and_self]

/-- A pair that already carries the bit with a gap of at least `M` is not even swapped (R93). -/
theorem spread_of_carried {a b M : Int} (hM : 1 ≤ M) (h : M ≤ a - b) (S : Int) :
    spreadHigh a b S M = a ∧ spreadLow a b S M = b := by
  obtain ⟨high, low⟩ := spread_of_far (h.trans (le_abs_self _)) S
  rw [high, low]
  omega

theorem spread_comm (a b S M : Int) :
    spreadHigh b a S M = spreadHigh a b S M ∧ spreadLow b a S M = spreadLow a b S M := by
  simp only [spreadHigh, spreadLow, max_comm b, min_comm b, abs_sub_comm b, and_self]

/-- A pair with a gap below `M` is moved apart by the nudge (R93). -/
theorem spread_of_near {a b S M : Int} (hS : 1 ≤ S) (h : |a - b| < M) :
    ∃ k : Int, k = (M - |a - b| + 2 * S - 1) / (2 * S) ∧ spreadHigh a b S M = max a b + k * S ∧
      spreadLow a b S M = min a b - k * S ∧ 2 * (k * S) < (M - |a - b|) + 2 * S :=
  ⟨_, nudgeSteps_of_lt h S, rfl, rfl, (nudgeSteps_bounds hS h).2⟩

/-- `extract_pair` recovers the bit that `embed_pair` embeds (R93). -/
theorem extractPair_of_embedPair {a b S M a' b' : Int} {bit : BitVec 1} (hS : 1 ≤ S) (hM : 1 ≤ M)
    (h : embedPair a b bit S M = some (a', b')) : extractPair a' b' = bit := by
  have gap := spread_gap hS a b M
  obtain ⟨-, -, ⟨rfl, rfl, rfl⟩ | ⟨rfl, rfl, rfl⟩⟩ := embedPair_some h
  · exact if_pos (by omega)
  · exact if_neg (by omega)

/-- Settles O43: bit 1 stores the larger value at A, bit 0 at B, and the facts above are about the two values. -/
theorem embedPairPostconditions : Obligations.EmbedPairPostconditions := by
  intro a b S M a' b' bit _ _ _ _ hS hM h
  have gap := spread_gap hS a b M
  have high : spreadLow a b S M ≤ spreadHigh a b S M := by omega
  have recovered := extractPair_of_embedPair hS hM h
  obtain ⟨-, -, ⟨rfl, rfl, rfl⟩ | ⟨rfl, rfl, rfl⟩⟩ := embedPair_some h
  · rw [max_eq_left high, min_eq_right high]
    exact ⟨gap, recovered, fun carried => spread_of_carried hM carried S, spread_sum a b S M,
      fun far => spread_of_far far S, spread_of_near hS⟩
  · rw [max_eq_right high, min_eq_left high]
    refine ⟨gap, recovered, fun carried => ?_, (add_comm _ _).trans (spread_sum a b S M),
      fun far => spread_of_far far S, spread_of_near hS⟩
    obtain ⟨highB, lowA⟩ := spread_of_carried hM carried S
    obtain ⟨highComm, lowComm⟩ := spread_comm a b S M
    exact ⟨lowComm.symm.trans lowA, highComm.symm.trans highB⟩

/-- `embed_pair` overflows exactly when one of its two values leaves the range on its own side (R87). -/
theorem embedPair_eq_none_iff {a b S M : Int} {bit : BitVec 1} (ha : inS16 a = true) (hb : inS16 b = true)
    (hS : 1 ≤ S) :
    embedPair a b bit S M = none ↔ spreadHigh a b S M > 32767 ∨ spreadLow a b S M < -32768 := by
  have nonneg := nudge_nonneg hS |a - b| M
  rw [inS16_iff] at ha hb
  rw [embedPair_eq, ite_eq_right_iff, inS16_iff, inS16_iff, spreadHigh, spreadLow]
  simp only [reduceCtorEq, imp_false]
  omega

/-- Settles O44: the nudge written out. -/
theorem embedPairOverflowsExactlyWhen : Obligations.EmbedPairOverflowsExactlyWhen := by
  intro a b S M bit ha ha' hb hb' hS _
  rw [embedPair_eq_none_iff ((inS16_iff a).2 ⟨ha, ha'⟩) ((inS16_iff b).2 ⟨hb, hb'⟩) hS, exists_eq_left]
  rfl

end Sys2Proof.Machine
end

-- ==== Proofs of the family 41_embed_extract: EMBED and EXTRACT ====
section
namespace Sys2Proof.Machine

/-! ## The configuration -/

theorem badExtractConfig_iff (s : State) : badExtractConfig s = true ↔ s.posAU = s.posBU ∧ s.posAV = s.posBV := by
  simp only [badExtractConfig, samePosition, Bool.and_eq_true, decide_eq_true_eq]

theorem badEmbedConfig_iff (s : State) :
    badEmbedConfig s = true ↔
      (s.posAU = s.posBU ∧ s.posAV = s.posBV) ∨ s.stepReg = 0 ∨ s.marginReg = 0 := by
  rw [← badExtractConfig_iff, badExtractConfig]
  simp only [badEmbedConfig, Bool.or_eq_true, decide_eq_true_eq, or_assoc]

theorem goodExtractConfig_iff (s : State) :
    badExtractConfig s = false ↔ ¬ (s.posAU = s.posBU ∧ s.posAV = s.posBV) := by
  rw [← badExtractConfig_iff, Bool.not_eq_true]

theorem goodEmbedConfig_iff (s : State) :
    badEmbedConfig s = false ↔
      ¬ (s.posAU = s.posBU ∧ s.posAV = s.posBV) ∧ s.stepReg ≠ 0 ∧ s.marginReg ≠ 0 := by
  rw [← Bool.not_eq_true, badEmbedConfig_iff, not_or, not_or]

theorem one_le_zext {n : Nat} {v : BitVec n} (h : v ≠ 0) : 1 ≤ zext v := by
  have : v.toNat ≠ 0 := fun e => h (BitVec.eq_of_toNat_eq e)
  rw [zext]
  omega

theorem index3_injective {x y : BitVec 3} (h : index3 x = index3 y) : x = y :=
  BitVec.eq_of_toNat_eq (congrArg Fin.val h)

/-- Distinct positions are distinct in row or column. -/
theorem positions_ne {s : State} (h : ¬ (s.posAU = s.posBU ∧ s.posAV = s.posBV)) : ¬ (ua s = ub s ∧ va s = vb s) :=
  fun ⟨hu, hv⟩ => h ⟨index3_injective hu, index3_injective hv⟩

/-! ## The outcomes of the two commands -/

/-- `EMBED` completes with the pair stored when the configuration is good and the pair fits (R89). -/
theorem exec_embed_completes {b : BitVec 1} {s : State} {a' b' : Int} (hc : badEmbedConfig s = false)
    (hp : embedPair (coeffA s) (coeffB s) b (stepS s) (marginM s) = some (a', b')) :
    exec (.embed b) s = .next (complete (storePair s a' b')) := by
  simp only [exec, execEmbed, hc, hp, Bool.false_eq_true, if_false]

theorem exec_embed_badConfig {s : State} (hc : badEmbedConfig s = true) (b : BitVec 1) :
    exec (.embed b) s = .next (raiseErr .badConfig s) := by
  simp only [exec, execEmbed, hc, if_true]

theorem exec_embed_overflows {b : BitVec 1} {s : State} (hc : badEmbedConfig s = false)
    (hp : embedPair (coeffA s) (coeffB s) b (stepS s) (marginM s) = none) :
    exec (.embed b) s = .next (raiseErr .coefOvf s) := by
  simp only [exec, execEmbed, hc, hp, Bool.false_eq_true, if_false]

/-- `EXTRACT` completes with the comparison when the positions are distinct (R90). -/
theorem exec_extract_completes {s : State} (hc : badExtractConfig s = false) :
    exec .extract s = .next (complete { s with resultBit := extractPair (coeffA s) (coeffB s) }) := by
  simp only [exec, execExtract, hc, Bool.false_eq_true, if_false]

theorem exec_extract_badConfig {s : State} (hc : badExtractConfig s = true) :
    exec .extract s = .next (raiseErr .badConfig s) := by
  simp only [exec, execExtract, hc, if_true]

/-! ## What the pair write stores -/

/-- The pair write stores at position B (R89). -/
theorem storePair_coefB (s : State) (a' b' : Int) :
    (storePair s a' b').coef[elt (ub s) (vb s)] = some (s16 b') := by
  rw [storePair_coef, Fin.getElem_fin, coefWithPair_getElem, if_pos rfl]

/-- The pair write stores at position A, which is not B (R89). -/
theorem storePair_coefA {s : State} (h : ¬ (s.posAU = s.posBU ∧ s.posAV = s.posBV)) (a' b' : Int) :
    (storePair s a' b').coef[elt (ua s) (va s)] = some (s16 a') := by
  have ne : elt (ua s) (va s) ≠ elt (ub s) (vb s) := fun e => positions_ne h ((elt_eq_iff _ _ _ _).1 e)
  rw [storePair_coef, Fin.getElem_fin, coefWithPair_getElem, if_neg (Fin.val_ne_of_ne ne), if_pos rfl]

/-- The pair write leaves every other element (R89). -/
theorem storePair_coef_others {s : State} {e : Fin 64} (ha : e ≠ elt (ua s) (va s)) (hb : e ≠ elt (ub s) (vb s))
    (a' b' : Int) : (storePair s a' b').coef[e] = s.coef[e] := by
  rw [storePair_coef, Fin.getElem_fin, coefWithPair_getElem, if_neg (Fin.val_ne_of_ne hb),
    if_neg (Fin.val_ne_of_ne ha)]
  rfl

/-- An element that holds a value in range reads as that value (R24). -/
theorem coeffs_of_stored {s : State} {u v : Fin 8} {x : Int} (h : s.coef[elt u v] = some (s16 x))
    (hx : inS16 x = true) : coeffs s u v = x := by
  rw [coeffs, coeffAt, h, Option.getD_some, sext, toInt_s16 hx]

/-! ## The statements about `EMBED` and `EXTRACT` -/

/-- Settles O45: `EMBED` completes with the pair write, element by element. -/
theorem embedStoresThePair : Obligations.EmbedStoresThePair := by
  intro b s a' b' hpos hS hM hp
  exact ⟨_, exec_embed_completes ((goodEmbedConfig_iff s).2 ⟨hpos, hS, hM⟩) hp, storePair_coefA hpos a' b',
    storePair_coefB s a' b', fun e ha hb => storePair_coef_others ha hb a' b', rfl⟩

/-- Settles O46: `raiseErr` written out, for the two errors of `EMBED`. -/
theorem embedErrors : Obligations.EmbedErrors := fun b s =>
  ⟨fun h => exec_embed_badConfig ((badEmbedConfig_iff s).2 h) b,
    fun hpos hS hM hp => exec_embed_overflows ((goodEmbedConfig_iff s).2 ⟨hpos, hS, hM⟩) hp⟩

/-- Settles O47: the comparison of the two coefficients written out. -/
theorem extractResult : Obligations.ExtractResult := fun s =>
  ⟨fun h => exec_extract_completes ((goodExtractConfig_iff s).2 h),
    fun h => exec_extract_badConfig ((badExtractConfig_iff s).2 h)⟩

/-- Settles O48: `EXTRACT` reads the pair that `EMBED` stored, and `extract_pair` recovers the bit from it. -/
theorem embedThenExtractRecoversTheBit : Obligations.EmbedThenExtractRecoversTheBit := by
  intro b s t hc hp ht
  obtain ⟨⟨a', b'⟩, hp⟩ := Option.ne_none_iff_exists'.1 hp
  rw [exec_embed_completes hc hp, Host.Outcome.next.injEq] at ht
  subst ht
  obtain ⟨hpos, hS, hM⟩ := (goodEmbedConfig_iff s).1 hc
  obtain ⟨fitsA, fitsB, -⟩ := embedPair_some hp
  have readA : coeffA (complete (storePair s a' b')) = a' := coeffs_of_stored (storePair_coefA hpos a' b') fitsA
  have readB : coeffB (complete (storePair s a' b')) = b' := coeffs_of_stored (storePair_coefB s a' b') fitsB
  refine ⟨_, exec_extract_completes ((goodExtractConfig_iff _).2 hpos), ?_, rfl⟩
  rw [complete_resultBit, readA, readB]
  exact extractPair_of_embedPair (one_le_zext hS) (one_le_zext hM) hp

end Sys2Proof.Machine
end

-- ==== Proofs of the family 41_embed_extract: EMBED_BLOCK and EXTRACT_BLOCK ====
section
namespace Sys2Proof.Machine

/-! ## The outcomes of the two commands -/

theorem exec_embedBlock_badConfig {s : State} (hc : badEmbedConfig s = true) (b : BitVec 1) :
    exec (.embedBlock b) s = .next (raiseErr .badConfig s) := by
  simp only [exec, execEmbedBlock, hc, if_true]

theorem exec_embedBlock_overflows {b : BitVec 1} {s : State} (hc : badEmbedConfig s = false)
    (hp : embedPair (fdct (samples s) (ua s) (va s)) (fdct (samples s) (ub s) (vb s)) b (stepS s) (marginM s) = none) :
    exec (.embedBlock b) s = .next (raiseErr .coefOvf s) := by
  simp only [exec, execEmbedBlock, hc, hp, Bool.false_eq_true, if_false]

/-- `EXTRACT_BLOCK` completes with the transform and its comparison when the positions are distinct (R92). -/
theorem exec_extractBlock_completes {s : State} (hc : badExtractConfig s = false) :
    exec .extractBlock s = .next (complete { s with
      coef := storedCoef (fdct (samples s))
      resultBit := extractPair (fdct (samples s) (ua s) (va s)) (fdct (samples s) (ub s) (vb s)) }) := by
  simp only [exec, execExtractBlock, hc, Bool.false_eq_true, if_false]

theorem exec_extractBlock_badConfig {s : State} (hc : badExtractConfig s = true) :
    exec .extractBlock s = .next (raiseErr .badConfig s) := by
  simp only [exec, execExtractBlock, hc, if_true]

/-! ## The block with the pair replaced -/

theorem replacePair_B (s : State) (y : Matrix) (a' b' : Int) : replacePair s y a' b' (ub s) (vb s) = b' :=
  if_pos ⟨rfl, rfl⟩

theorem replacePair_A {s : State} (h : ¬ (s.posAU = s.posBU ∧ s.posAV = s.posBV)) (y : Matrix) (a' b' : Int) :
    replacePair s y a' b' (ua s) (va s) = a' := by
  rw [replacePair, if_neg (positions_ne h), if_pos ⟨rfl, rfl⟩]

theorem replacePair_others {s : State} {u v : Fin 8} (ha : (u, v) ≠ (ua s, va s)) (hb : (u, v) ≠ (ub s, vb s))
    (y : Matrix) (a' b' : Int) : replacePair s y a' b' u v = y u v := by
  rw [replacePair, if_neg fun h => hb (Prod.ext h.1 h.2), if_neg fun h => ha (Prod.ext h.1 h.2)]

theorem replacePair_inS16 {y : Matrix} {a' b' : Int} (hy : ∀ u v, inS16 (y u v) = true) (ha : inS16 a' = true)
    (hb : inS16 b' = true) (s : State) (u v : Fin 8) : inS16 (replacePair s y a' b' u v) = true := by
  rw [replacePair]
  split
  · exact hb
  · split
    · exact ha
    · exact hy u v

/-- Writing the pair into a stored block is storing the block with the pair replaced (R89, R91). -/
theorem coefWithPair_storedCoef (s : State) (y : Matrix) (a' b' : Int) :
    coefWithPair (elt (ua s) (va s)) (elt (ub s) (vb s)) a' b' (storedCoef y) =
      storedCoef (replacePair s y a' b') := by
  apply block_ext
  intro e
  obtain ⟨u, v, rfl⟩ : ∃ u v, e = elt u v := ⟨rowOf e, colOf e, (elt_rowOf_colOf e).symm⟩
  rw [storedCoef_elt, Fin.getElem_fin, coefWithPair_getElem, ← Fin.getElem_fin, storedCoef_elt, replacePair]
  simp only [Fin.val_inj, elt_eq_iff]
  split
  · rfl
  · split <;> rfl

/-- A stored block whose values are in range reads as itself (R24, R80). -/
theorem coeffs_of_storedCoef {s : State} {y : Matrix} (h : s.coef = storedCoef y)
    (hy : ∀ u v, inS16 (y u v) = true) : coeffs s = y := by
  funext u v
  exact coeffs_of_stored (by rw [h, storedCoef_elt]) (hy u v)

/-! ## The forward transform of the samples -/

theorem abs_samples_le (s : State) (i j : Fin 8) : |samples s i j| ≤ 255 := by
  have := (sampleAt s (elt i j)).isLt
  rw [samples, zext, abs_le]
  omega

/-- R75 for the samples of a state. -/
theorem fdct_samples_bounds (s : State) (u v : Fin 8) :
    -16315 ≤ fdct (samples s) u v ∧ fdct (samples s) u v ≤ 16315 :=
  abs_le.1 (abs_fdct_le (abs_samples_le s) u v)

theorem fdct_samples_inS16 (s : State) (u v : Fin 8) : inS16 (fdct (samples s) u v) = true := by
  have := fdct_samples_bounds s u v
  rw [inS16_iff]
  omega

/-- The state after `FDCT` (R80). -/
def afterFdct (s : State) : State := complete { s with coef := storedCoef (fdct (samples s)) }

theorem exec_fdct (s : State) : exec .fdct s = .next (afterFdct s) := rfl

/-- After `FDCT` the coefficients read as the transform itself: none was cut off (R75). -/
theorem coeffs_afterFdct (s : State) : coeffs (afterFdct s) = fdct (samples s) :=
  coeffs_of_storedCoef rfl (fdct_samples_inS16 s)

theorem coeffA_afterFdct (s : State) : coeffA (afterFdct s) = fdct (samples s) (ua s) (va s) := by
  rw [coeffA, coeffs_afterFdct]
  rfl

theorem coeffB_afterFdct (s : State) : coeffB (afterFdct s) = fdct (samples s) (ub s) (vb s) := by
  rw [coeffB, coeffs_afterFdct]
  rfl

/-! ## `EMBED_BLOCK` in stages -/

/-- `IDCT` with its writes written out (R81). -/
theorem exec_idct (s : State) : exec .idct s =
    .next (complete { s with pix := clippedPix (idct (coeffs s)), clip := isClipped (idct (coeffs s)) }) := rfl

/-- Writing the block, then the pair, then the samples leaves what `EMBED_BLOCK` writes at once (R91). -/
theorem storeEmbeddedBlock_in_stages {s : State} {c : Block (Option Coeff)} {y : Matrix} {a' b' : Int}
    (h : coefWithPair (elt (ua s) (va s)) (elt (ub s) (vb s)) a' b' c = storedCoef y) :
    complete { complete (storePair (complete { s with coef := c }) a' b') with
        pix := clippedPix (idct y), clip := isClipped (idct y) } = complete (storeEmbeddedBlock s y) := by
  rw [storeEmbeddedBlock, ← h]
  rfl

/-! ## The statements about `EMBED_BLOCK` and `EXTRACT_BLOCK` -/

/-- Settles O49: `EMBED_BLOCK` completes with the replaced block, element by element. -/
theorem embedBlockResult : Obligations.EmbedBlockResult := by
  intro b s a' b' hpos hS hM hp
  exact ⟨_, replacePair s (fdct (samples s)) a' b',
    exec_embedBlock_completes ((goodEmbedConfig_iff s).2 ⟨hpos, hS, hM⟩) hp,
    replacePair_A hpos _ a' b', replacePair_B s _ a' b', fun u v ha hb => replacePair_others ha hb _ a' b',
    storedCoef_elt _, fun i j => ⟨_, clippedPix_elt _ i j, toNat_clamp _⟩, isClipped_iff _, rfl⟩

/-- Settles O50: `raiseErr` written out, for the two errors of `EMBED_BLOCK`. -/
theorem embedBlockErrors : Obligations.EmbedBlockErrors := fun b s =>
  ⟨fun h => exec_embedBlock_badConfig ((badEmbedConfig_iff s).2 h) b,
    fun hpos hS hM hp => exec_embedBlock_overflows ((goodEmbedConfig_iff s).2 ⟨hpos, hS, hM⟩) hp⟩

/-- Settles O51: every value that passes through `COEF` is in range, so `EMBED` and `IDCT` read what `FDCT` and `EMBED`
computed. -/
theorem embedBlockIsFdctThenEmbedThenIdct : Obligations.EmbedBlockIsFdctThenEmbedThenIdct := by
  intro b s t1 t2 t3 hc h1 hp h2 h3
  rw [exec_fdct, Host.Outcome.next.injEq] at h1
  subst h1
  obtain ⟨⟨a', b'⟩, hp⟩ := Option.ne_none_iff_exists'.1 hp
  rw [exec_embed_completes (s := afterFdct s) hc hp, Host.Outcome.next.injEq] at h2
  subst h2
  obtain ⟨fitsA, fitsB, -⟩ := embedPair_some hp
  rw [coeffA_afterFdct, coeffB_afterFdct] at hp
  have stored := coefWithPair_storedCoef s (fdct (samples s)) a' b'
  have read : coeffs (complete (storePair (afterFdct s) a' b')) = replacePair s (fdct (samples s)) a' b' :=
    coeffs_of_storedCoef stored (replacePair_inS16 (fdct_samples_inS16 s) fitsA fitsB s)
  rw [exec_embedBlock_completes hc hp, ← h3, exec_idct, read, afterFdct, storeEmbeddedBlock_in_stages stored]

/-- The pair of two transformed values fits when `M div 2 + S` is at most 16451 (R91, corner cases): a nudged value is
half the sum of the two plus less than half of `M + 2 * S`. -/
theorem embedPair_fits {a b S M : Int} (ha : -16315 ≤ a ∧ a ≤ 16315) (hb : -16315 ≤ b ∧ b ≤ 16315) (hS : 1 ≤ S)
    (h : M / 2 + S ≤ 16451) (bit : BitVec 1) : embedPair a b bit S M ≠ none := by
  have inRange {x : Int} (hx : -16315 ≤ x ∧ x ≤ 16315) : inS16 x = true := by
    rw [inS16_iff]
    omega
  have order := max_sub_min_eq_abs' a b
  rw [Ne, embedPair_eq_none_iff (inRange ha) (inRange hb) hS, spreadHigh, spreadLow]
  obtain near | far := lt_or_ge |a - b| M
  · have bounds := nudgeSteps_bounds hS near
    omega
  · rw [nudgeSteps_of_ge far]
    omega

/-- Settles O52: the transformed values lie in the range of R75, from which the nudge cannot leave 16 bits. -/
theorem embedBlockCannotOverflow : Obligations.EmbedBlockCannotOverflow := by
  intro b s hc hbound
  obtain ⟨-, hS, -⟩ := (goodEmbedConfig_iff s).1 hc
  have bound : marginM s / 2 + stepS s ≤ 16451 := by
    rw [marginM, stepS, zext, zext]
    omega
  have fits := embedPair_fits (fdct_samples_bounds s (ua s) (va s)) (fdct_samples_bounds s (ub s) (vb s))
    (one_le_zext hS) bound b
  obtain ⟨⟨a', b'⟩, hp⟩ := Option.ne_none_iff_exists'.1 fits
  exact ⟨a', b', exec_embedBlock_completes hc hp⟩

/-- Settles O53: `EXTRACT` after `FDCT` reads the transform itself. -/
theorem extractBlockResult : Obligations.ExtractBlockResult := by
  refine ⟨fun s t1 t2 hpos h1 h2 => ?_, fun s => ⟨fun hpos => ?_, fun h => ?_⟩⟩
  · rw [exec_fdct, Host.Outcome.next.injEq] at h1
    subst h1
    rw [exec_extract_completes ((goodExtractConfig_iff (afterFdct s)).2 hpos), coeffA_afterFdct, coeffB_afterFdct] at h2
    exact (exec_extractBlock_completes ((goodExtractConfig_iff s).2 hpos)).trans h2
  · exact ⟨_, exec_extractBlock_completes ((goodExtractConfig_iff s).2 hpos), storedCoef_elt _, rfl, rfl⟩
  · exact exec_extractBlock_badConfig ((badExtractConfig_iff s).2 h)

end Sys2Proof.Machine
end

-- ==== Proofs of the family 42_cursor_capacity: CURSOR ====
section
namespace Sys2Proof.Machine

/-! ## The cursor as a function of the index -/

/-- The index of the block at a position: frames in sequence, row-major within a frame (R97). -/
def blockIndex (bw bpf : Nat) (p : BlockPos) : Nat := bpf * p.frame + (bw * p.by_ + p.bx)

/-- The cursor loses nothing of the index (R99). -/
theorem blockIndex_cursorOf (bw bpf k : Nat) : blockIndex bw bpf (cursorOf bw bpf k) = k := by
  rw [blockIndex, cursorOf, Nat.div_add_mod, Nat.div_add_mod]

/-- A block lies within its frame (R96). -/
theorem blockInFrame_lt {bw bh y x : Nat} (hy : y < bh) (hx : x < bw) : bw * y + x < bw * bh :=
  Nat.mul_comm bh bw ▸ Nat.mul_add_lt_mul_of_lt_of_lt hy hx

/-- A block lies within the cover (R96, R98). -/
theorem blockIndex_lt {bw bh F : Nat} {p : BlockPos} (hf : p.frame < F) (hy : p.by_ < bh) (hx : p.bx < bw) :
    blockIndex bw (bw * bh) p < bw * bh * F :=
  blockInFrame_lt hf (blockInFrame_lt hy hx)

/-- The cursor finds every position whose row and column are in range (R99). -/
theorem cursorOf_blockIndex {bw bh : Nat} {p : BlockPos} (hy : p.by_ < bh) (hx : p.bx < bw) :
    cursorOf bw (bw * bh) (blockIndex bw (bw * bh) p) = p := by
  have inFrame := blockInFrame_lt hy hx
  have frame := (Nat.div_mod_unique (d := p.frame) (Nat.zero_lt_of_lt inFrame)).2 ⟨Nat.add_comm _ _, inFrame⟩
  have row := (Nat.div_mod_unique (d := p.by_) (Nat.zero_lt_of_lt hx)).2 ⟨Nat.add_comm _ _, hx⟩
  rw [cursorOf, blockIndex, frame.1, frame.2, row.1, row.2]

/-- Below the number of blocks the cursor stays in the cover (R98, R99). -/
theorem cursorOf_inRange {bw bh F k : Nat} (h : k < bw * bh * F) :
    (cursorOf bw (bw * bh) k).frame < F ∧ (cursorOf bw (bw * bh) k).by_ < bh ∧ (cursorOf bw (bw * bh) k).bx < bw := by
  have hbpf : 0 < bw * bh := Nat.pos_of_mul_pos_right (Nat.zero_lt_of_lt h)
  exact ⟨Nat.div_lt_of_lt_mul h, Nat.div_lt_of_lt_mul (Nat.mod_lt k hbpf),
    Nat.mod_lt _ (Nat.pos_of_mul_pos_right hbpf)⟩

/-- Quotient and remainder grow with the number in the lexicographic order. -/
theorem div_mod_lex_of_lt {k m : Nat} (h : k < m) (n : Nat) : k / n < m / n ∨ (k / n = m / n ∧ k % n < m % n) := by
  obtain lt | eq := Nat.lt_or_eq_of_le (Nat.div_le_div_right (c := n) h.le)
  · exact .inl lt
  · refine .inr ⟨eq, ?_⟩
    rw [← Nat.div_add_mod k n, ← Nat.div_add_mod m n, eq] at h
    exact Nat.lt_of_add_lt_add_left h

/-- Settles O56: `blockIndex` is the inverse, and the order is that of quotient and remainder, taken twice. -/
theorem cursorIsAnOrderedBijection : Obligations.CursorIsAnOrderedBijection := by
  intro bw bh F _ _
  refine ⟨fun k => cursorOf_inRange, fun f y x hf hy hx => ?_, fun k m h => ?_⟩
  · exact ⟨blockIndex bw (bw * bh) ⟨f, y, x⟩, blockIndex_lt hf hy hx, cursorOf_blockIndex hy hx⟩
  · exact (div_mod_lex_of_lt h (bw * bh)).imp_right fun ⟨frame, rem⟩ => ⟨frame, div_mod_lex_of_lt rem bw⟩

/-! ## The outcomes of `CURSOR` -/

/-- The position that `CURSOR` computes (R98). -/
def cursorPos (s : State) : BlockPos := cursorOf (blockCols s) (blocksPerFrame s) s.kidx.toNat

/-- The state after a completing `CURSOR` (R98). -/
def afterCursor (s : State) : State := complete { s with
  curFrame := BitVec.ofNat 32 (cursorPos s).frame
  curBy := BitVec.ofNat 16 (cursorPos s).by_
  curBx := BitVec.ofNat 16 (cursorPos s).bx }

/-- `CURSOR` completes below the number of blocks (R98). -/
theorem exec_cursor_completes {s : State} (h : s.kidx.toNat < totalBlocks s) :
    exec .cursor s = .next (afterCursor s) := by
  have hbpf : 0 < blocksPerFrame s := Nat.pos_of_mul_pos_right (Nat.zero_lt_of_lt h)
  rw [exec, execCursor, if_neg (not_or.2 ⟨hbpf.ne', h.not_ge⟩)]
  rfl

/-- `CURSOR` errs at and past the number of blocks, which is 0 when there is no whole block or no frame (R98). -/
theorem exec_cursor_outOfRange {s : State} (h : totalBlocks s ≤ s.kidx.toNat) :
    exec .cursor s = .next (raiseErr .cursorRange s) := by
  rw [exec, execCursor, if_pos (.inr h)]

/-- Below the number of blocks the position lies in the cover (R98). -/
theorem cursorPos_inRange {s : State} (h : s.kidx.toNat < totalBlocks s) :
    (cursorPos s).frame < s.frameCnt.toNat ∧ (cursorPos s).by_ < blockRows s ∧ (cursorPos s).bx < blockCols s :=
  cursorOf_inRange h

/-- A number below `2 ^ w` fits a register of `w` bits. -/
theorem toNat_ofNat_of_lt {w n : Nat} (h : n < 2 ^ w) : (BitVec.ofNat w n).toNat = n :=
  (BitVec.toNat_ofNat n w).trans (Nat.mod_eq_of_lt h)

/-- Every result of `CURSOR` fits its register (R98). -/
theorem afterCursor_registers {s : State} (h : s.kidx.toNat < totalBlocks s) :
    (afterCursor s).curFrame.toNat = (cursorPos s).frame ∧ (afterCursor s).curBy.toNat = (cursorPos s).by_ ∧
      (afterCursor s).curBx.toNat = (cursorPos s).bx := by
  obtain ⟨hf, hy, hx⟩ := cursorPos_inRange h
  have hF := s.frameCnt.isLt
  have hH : blockRows s < 2 ^ 16 := (Nat.div_le_self _ _).trans_lt s.frameH.isLt
  have hW : blockCols s < 2 ^ 16 := (Nat.div_le_self _ _).trans_lt s.frameW.isLt
  exact ⟨toNat_ofNat_of_lt (hf.trans hF), toNat_ofNat_of_lt (hy.trans hH),
    toNat_ofNat_of_lt (hx.trans hW)⟩

/-- The registers after a completing `CURSOR` give back the index (R99). -/
theorem blockIndex_afterCursor {s : State} (h : s.kidx.toNat < totalBlocks s) :
    blockIndex (blockCols s) (blocksPerFrame s)
      ⟨(afterCursor s).curFrame.toNat, (afterCursor s).curBy.toNat, (afterCursor s).curBx.toNat⟩ = s.kidx.toNat := by
  obtain ⟨frame, row, col⟩ := afterCursor_registers h
  rw [frame, row, col]
  exact blockIndex_cursorOf _ _ _

/-- Settles O54: the three registers hold the position, which lies in the cover. -/
theorem cursorResult : Obligations.CursorResult := by
  rintro s bw bh k rfl rfl rfl - h
  obtain ⟨frame, row, col⟩ := afterCursor_registers h
  obtain ⟨hf, hy, hx⟩ := cursorPos_inRange h
  exact ⟨_, exec_cursor_completes h, frame, row, col, frame ▸ hf, row ▸ hy, col ▸ hx, rfl⟩

/-- Settles O55: in each of the four cases the index is at or past the number of blocks, which is 0 in the first
three. -/
theorem cursorOutOfRange : Obligations.CursorOutOfRange := by
  intro s h
  refine exec_cursor_outOfRange ?_
  rw [totalBlocks, blocksPerFrame, blockCols, blockRows]
  obtain hW | hH | hF | hk := h
  · simp [Nat.div_eq_of_lt hW]
  · simp [Nat.div_eq_of_lt hH]
  · simp [hF]
  · exact hk

end Sys2Proof.Machine
end

-- ==== Proofs of the family 42_cursor_capacity: CAPACITY ====
section
namespace Sys2Proof.Machine

/-! ## The capacity arithmetic -/

/-- The capacity is the truncated difference (R101). -/
theorem capacityBits_eq_sub (total h : Nat) : capacityBits total h = total - h := by
  rw [capacityBits]
  split <;> omega

theorem capacityBits_mono {total total' h h' : Nat} (ht : total ≤ total') (hh : h' ≤ h) :
    capacityBits total h ≤ capacityBits total' h' := by
  rw [capacityBits_eq_sub, capacityBits_eq_sub]
  exact tsub_le_tsub ht hh

theorem saturate32_mono {m n : Nat} (h : m ≤ n) : saturate32 m ≤ saturate32 n := min_le_min_right _ h

/-- A saturated number fits a 32-bit register (R101). -/
theorem toNat_ofNat_saturate32 (n : Nat) : (BitVec.ofNat 32 (saturate32 n)).toNat = saturate32 n :=
  toNat_ofNat_of_lt (Nat.lt_of_le_pred (by decide) (Nat.min_le_right _ _))

/-- The number of blocks grows with the width, the height and the frame count (R103). -/
theorem totalBlocks_mono {s s' : State} (hW : s.frameW.toNat ≤ s'.frameW.toNat)
    (hH : s.frameH.toNat ≤ s'.frameH.toNat) (hF : s.frameCnt.toNat ≤ s'.frameCnt.toNat) :
    totalBlocks s ≤ totalBlocks s' :=
  Nat.mul_le_mul (Nat.mul_le_mul (Nat.div_le_div_right hW) (Nat.div_le_div_right hH)) hF

/-! ## The outcome of `CAPACITY` -/

/-- The exact capacity of a state in bits (R101). -/
def payloadBits (s : State) : Nat := capacityBits (totalBlocks s) s.hdrW.toNat

/-- The state after `CAPACITY` (R102). -/
def afterCapacity (s : State) : State := complete { s with
  capBits := BitVec.ofNat 32 (saturate32 (payloadBits s))
  capBytes := BitVec.ofNat 32 (saturate32 (payloadBits s / 8)) }

theorem exec_capacity (s : State) : exec .capacity s = .next (afterCapacity s) := rfl

theorem afterCapacity_capBits (s : State) : (afterCapacity s).capBits.toNat = saturate32 (payloadBits s) :=
  toNat_ofNat_saturate32 _

theorem afterCapacity_capBytes (s : State) : (afterCapacity s).capBytes.toNat = saturate32 (payloadBits s / 8) :=
  toNat_ofNat_saturate32 _

/-- Settles O57: the bits of the statement are the model's, whichever of its two cases holds. -/
theorem capacityResult : Obligations.CapacityResult := by
  rintro s total bits rfl small large
  obtain rfl : bits = payloadBits s := by
    rw [payloadBits, capacityBits_eq_sub, totalBlocks, blocksPerFrame, blockCols, blockRows]
    omega
  exact ⟨_, exec_capacity s, afterCapacity_capBits s, afterCapacity_capBytes s, rfl⟩

/-- Settles O58: every part of the capacity arithmetic is monotone. -/
theorem capacityIsMonotone : Obligations.CapacityIsMonotone := by
  intro s s' t t' hW hH hF hh ht ht'
  rw [exec_capacity, Host.Outcome.next.injEq] at ht ht'
  subst ht ht'
  have bits : payloadBits s ≤ payloadBits s' := capacityBits_mono (totalBlocks_mono hW hH hF) hh
  rw [afterCapacity_capBits, afterCapacity_capBits, afterCapacity_capBytes, afterCapacity_capBytes]
  exact ⟨saturate32_mono bits, saturate32_mono (Nat.div_le_div_right bits)⟩

/-! ## The payload and the cursor -/

/-- With a capacity that is not 0, an index below the header width and the capacity together is below the number of
blocks, since saturation only lowers the capacity (R103). -/
theorem lt_totalBlocks_of_lt_capacity {s : State} {k : Nat} (hne : (afterCapacity s).capBits ≠ 0)
    (hk : k < s.hdrW.toNat + (afterCapacity s).capBits.toNat) : k < totalBlocks s := by
  have pos : (afterCapacity s).capBits.toNat ≠ 0 := fun e => hne (BitVec.eq_of_toNat_eq e)
  have le : (afterCapacity s).capBits.toNat ≤ totalBlocks s - s.hdrW.toNat := by
    rw [afterCapacity_capBits, payloadBits, capacityBits_eq_sub]
    exact Nat.min_le_left _ _
  omega

/-- Settles O59: `CAPACITY` leaves the cover as it is, so `CURSOR` completes and its position gives back the index. -/
theorem payloadWithinCapacityIsInCursorRange : Obligations.PayloadWithinCapacityIsInCursorRange := by
  intro s t k ht hne hk
  rw [exec_capacity, Host.Outcome.next.injEq] at ht
  subst ht
  have inRange : k.toNat < totalBlocks { afterCapacity s with kidx := k } := lt_totalBlocks_of_lt_capacity hne hk
  refine ⟨_, exec_cursor_completes inRange, rfl, ?_⟩
  rw [add_assoc, mul_comm, mul_comm (BitVec.toNat _) (_ / 8)]
  exact blockIndex_afterCursor (s := { afterCapacity s with kidx := k }) inRange

end Sys2Proof.Machine
end

-- ==== Proofs of the family 43_control: NOP ====
section
namespace Sys2Proof.Machine

/-! ## The outcome of `NOP` -/

/-- `NOP` has no writes of its own: its engine step is `complete()` alone (R105, R111). -/
theorem exec_nop (s : State) : exec .nop s = .next (complete s) := rfl

/-- Settles O35: the record of the statement is `complete s` written out. -/
theorem nopOnlyCompletes : Obligations.NopOnlyCompletes := exec_nop

end Sys2Proof.Machine
end

-- ==== Proofs of the family 60_exceptions: what a bus write does to ERR ====
section
namespace Sys2Proof.Machine

/-! ## A write to `CMD` -/

/-- While busy every word is dropped with `ERR(BUSY)` (R112). -/
theorem writeCmd_whileBusy {s : State} (hb : s.busy = true) (w : Word) : writeCmd w s = setErr .busy s := by
  simp only [writeCmd, hb, if_true]

/-- While idle a legal word is accepted (R112). -/
theorem writeCmd_legal {w : Word} {s : State} {i : Instr} (hb : s.busy = false) (hd : decode w = .cmd i) :
    writeCmd w s = acceptCommand w s := by
  simp only [writeCmd, hb, hd, Bool.false_eq_true, if_false]

/-- Settles O19: the three outcomes of `writeCmd`, written out. -/
theorem cmdWriteRule : Obligations.CmdWriteRule := by
  intro s w
  rw [show busWrite 0x00C w s = writeCmd w s from busWrite_reg (locOf_offsetOf .cmd) w s]
  exact ⟨fun hb => writeCmd_whileBusy hb w, fun hb why hd => writeCmd_illegal hb (by simp [hd]),
    fun hb i hd => writeCmd_legal hb hd⟩

/-! ## A write to a protected place -/

/-- The offsets `0x100..0x13F` are the `PIX` window (R47). -/
theorem locOf_pixWindow {off : Offset} (h : 0x100 ≤ off.toNat ∧ off.toNat < 0x140) : ∃ w, locOf off = .pix w := by
  have window : 64 ≤ off.toNat / 4 ∧ off.toNat / 4 < 80 := by omega
  unfold locOf
  generalize off.toNat / 4 = k at window
  split
  case h_19 => exact ⟨_, if_pos window⟩
  all_goals omega

/-- The offsets `0x200..0x27F` are the `COEF` window (R47). -/
theorem locOf_coefWindow {off : Offset} (h : 0x200 ≤ off.toNat ∧ off.toNat < 0x280) : ∃ w, locOf off = .coef w := by
  have noPix : ¬ (64 ≤ off.toNat / 4 ∧ off.toNat / 4 < 80) := by omega
  have window : 128 ≤ off.toNat / 4 ∧ off.toNat / 4 < 160 := by omega
  unfold locOf
  generalize off.toNat / 4 = k at noPix window
  split
  case h_19 => exact ⟨_, (if_neg noPix).trans (if_pos window)⟩
  all_goals omega

/-- A write at an offset in the `PIX` window is a protected one (R113). -/
theorem busWrite_pix {off : Offset} {w : Fin 16} (h : locOf off = .pix w) (v : Word) :
    busWrite off v = writeProtected (putPixWord w v) := by
  funext s
  rw [busWrite, h]

/-- A write at an offset in the `COEF` window is a protected one (R113). -/
theorem busWrite_coef {off : Offset} {w : Fin 32} (h : locOf off = .coef w) (v : Word) :
    busWrite off v = writeProtected (putCoefWord w v) := by
  funext s
  rw [busWrite, h]

/-- A write to an input register while busy only raises `ERR(BUSY)` (R113). -/
theorem writeReg_input_whileBusy {r : Reg} (h : r ∈ [.pos, .step, .margin, .frameW, .frameH, .frameCnt, .hdrW, .kidx])
    {s : State} (hb : s.busy = true) (v : Word) : writeReg v s r = setErr .busy s := by
  cases r with
  | pos | step | margin | frameW | frameH | frameCnt | hdrW | kidx =>
    rw [writeReg, writeProtected_whileBusy hb]
  | id | ctrl | status | cmd | result | curFrame | curBy | curBx | capBits | capBytes => simp at h

/-- Settles O20: the offsets of the list are those of the input registers, the two ranges the buffer windows, and
every write there is protected. -/
theorem protectedWritesAreIgnoredWhileBusy : Obligations.ProtectedWritesAreIgnoredWhileBusy := by
  intro s v off hb h
  change busWrite off v s = setErr .busy s
  obtain h | h | h := h
  · have offsets : ([0x010, 0x014, 0x018, 0x020, 0x024, 0x028, 0x02C, 0x030] : List Offset) =
        [.pos, .step, .margin, .frameW, .frameH, .frameCnt, .hdrW, .kidx].map offsetOf := rfl
    rw [offsets] at h
    obtain ⟨r, hr, rfl⟩ := List.mem_map.1 h
    rw [busWrite_reg (locOf_offsetOf r), writeReg_input_whileBusy hr hb]
  · obtain ⟨w, hw⟩ := locOf_pixWindow h
    rw [busWrite_pix hw, writeProtected_whileBusy hb]
  · obtain ⟨w, hw⟩ := locOf_coefWindow h
    rw [busWrite_coef hw, writeProtected_whileBusy hb]

/-! ## Any other write -/

/-- What the write `f` does to `ERR` in `s`, whatever `ERR` is: it raises one code, changing nothing else but `DONE`, or
it leaves `ERR` as it is. -/
inductive ErrEffect (f : State → State) (s : State) : Prop
  | raises (c : ErrCode) (d : Bool) (hc : c ≠ .noError)
      (h : ∀ e, f { s with err := e } = { setErr c { s with err := e } with done := d })
  | keeps (h : ∀ e, (f { s with err := e }).err = e)

/-- A protected write raises `BUSY` or, if its store does, leaves `ERR` (R113). -/
theorem writeProtected_errEffect {store : State → State} (hs : ∀ t, (store t).err = t.err) (s : State) :
    ErrEffect (writeProtected store) s := by
  cases hb : s.busy with
  | true => exact .raises .busy s.done (by decide) fun e => writeProtected_whileBusy (s := { s with err := e }) hb store
  | false => exact .keeps fun e => by rw [writeProtected_whileIdle (s := { s with err := e }) hb, hs]

/-- A write to `CMD` raises `BUSY` or `ILLEGAL_CMD`, or is accepted and leaves `ERR` (R112). -/
theorem writeCmd_errEffect (w : Word) (s : State) : ErrEffect (writeCmd w) s := by
  cases hb : s.busy with
  | true => exact .raises .busy s.done (by decide) fun e => writeCmd_whileBusy (s := { s with err := e }) hb w
  | false =>
    cases hd : decode w with
    | illegal why => exact .raises .illegalCmd true (by decide) fun e => writeCmd_illegal hb (by simp [hd])
    | cmd i => exact .keeps fun e => by rw [writeCmd_legal (s := { s with err := e }) hb hd, acceptCommand_err]

/-- Every write but that to `STATUS` raises one code or leaves `ERR`, whatever `ERR` is (R112, R113, R117). -/
theorem busWrite_errEffect {off : Offset} (h : locOf off ≠ .reg .status) (v : Word) (s : State) :
    ErrEffect (busWrite off v) s := by
  cases hl : locOf off with
  | reg r =>
    have hw : busWrite off v = (writeReg v · r) := funext (busWrite_reg hl v)
    rw [hw]
    cases r with
    | status => exact absurd hl h
    | cmd => exact writeCmd_errEffect v s
    | pos | step | margin | frameW | frameH | frameCnt | hdrW | kidx =>
      exact writeProtected_errEffect (fun _ => by rfl) s
    | id | ctrl | result | curFrame | curBy | curBx | capBits | capBytes => exact .keeps fun _ => rfl
  | pix w =>
    rw [busWrite_pix hl]
    exact writeProtected_errEffect (putPixWord_err w v) s
  | coef w =>
    rw [busWrite_coef hl]
    exact writeProtected_errEffect (putCoefWord_err w v) s
  | reserved => exact .keeps fun _ => by rw [busWrite, hl]

/-- A write that errs changes `ERR` and `DONE` only (R118). -/
theorem busWrite_of_errs {off : Offset} {v : Word} {s : State}
    (h : (busWrite off v { s with err := .noError }).err ≠ .noError) :
    ∃ err done, busWrite off v s = { s with err := err, done := done } := by
  by_cases hl : locOf off = .reg .status
  · simp [busWrite_reg hl, writeReg] at h
  · obtain ⟨c, d, _, hw⟩ | hw := busWrite_errEffect hl v s
    · exact ⟨_, _, hw s.err⟩
    · exact absurd (hw _) h

/-- A write that changes an `ERR` that is not 0 is one to `STATUS` with bit 3 set, and makes it 0 (R117). -/
theorem busWrite_changes_err {off : Offset} {v : Word} {s : State} (he : s.err ≠ .noError)
    (h : (busWrite off v s).err ≠ s.err) :
    (busWrite off v s).err = .noError ∧ locOf off = .reg .status ∧ v.getLsbD 3 = true := by
  by_cases hl : locOf off = .reg .status
  · have hw : (busWrite off v s).err = if v.getLsbD 3 then .noError else s.err := by rw [busWrite_reg hl]; rfl
    rw [hw] at h ⊢
    cases hv : v.getLsbD 3 with
    | true => exact ⟨rfl, hl, rfl⟩
    | false => exact absurd (by rw [hv]; rfl) h
  · obtain ⟨c, d, _, hw⟩ | hw := busWrite_errEffect hl v s
    · exact absurd ((congrArg State.err (hw s.err)).trans (if_neg he)) h
    · exact absurd (hw s.err) h

end Sys2Proof.Machine
end

-- ==== Proofs of the family 60_exceptions: how a command ends ====
section
namespace Sys2Proof.Machine

/-! ## Every ending -/

/-- Settles O26: both endings of a command keep every field named. -/
theorem everyCommandEndsIdleAndDone : Obligations.EveryCommandEndsIdleAndDone := by
  intro i s
  obtain ⟨c, h⟩ | ⟨_, _, _, _, _, _, _, _, _, h⟩ := exec_cases i s
  · exact ⟨_, h, by simp⟩
  · exact ⟨_, h, by simp⟩

/-! ## The error a command ends with -/

/-- The error of the two embedding commands, `BAD_CONFIG` before `COEF_OVF` (R116); `pair` is what `embed_pair` returns
for the coefficients the command reads. -/
def embedError (s : State) (pair : Option (Int × Int)) : ErrCode :=
  if badEmbedConfig s then .badConfig else if pair = none then .coefOvf else .noError

/-- The error of the two extracting commands (R114). -/
def extractError (s : State) : ErrCode := if badExtractConfig s then .badConfig else .noError

/-- The error that command `i` ends with from `ERR = 0`, `noError` where it completes (R89 to R92, R98, R114). -/
def errorOf (i : Instr) (s : State) : ErrCode :=
  match i with
  | .nop | .fdct | .idct | .capacity => .noError
  | .extract | .extractBlock => extractError s
  | .embed b => embedError s (embedPair (coeffA s) (coeffB s) b (stepS s) (marginM s))
  | .embedBlock b => embedError s
      (embedPair (fdct (samples s) (ua s) (va s)) (fdct (samples s) (ub s) (vb s)) b (stepS s) (marginM s))
  | .cursor => if s.kidx.toNat < totalBlocks s then .noError else .cursorRange

theorem embedError_cases (s : State) (pair : Option (Int × Int)) :
    (badEmbedConfig s = true ∧ embedError s pair = .badConfig) ∨
    (badEmbedConfig s = false ∧ pair = none ∧ embedError s pair = .coefOvf) ∨
    (badEmbedConfig s = false ∧ (∃ r, pair = some r) ∧ embedError s pair = .noError) := by
  cases hc : badEmbedConfig s with
  | true => exact .inl ⟨rfl, by simp [embedError, hc]⟩
  | false =>
    cases pair with
    | none => exact .inr (.inl ⟨rfl, rfl, by simp [embedError, hc]⟩)
    | some r => exact .inr (.inr ⟨rfl, ⟨r, rfl⟩, by simp [embedError, hc]⟩)

theorem extractError_cases (s : State) :
    (badExtractConfig s = true ∧ extractError s = .badConfig) ∨
    (badExtractConfig s = false ∧ extractError s = .noError) := by
  cases hc : badExtractConfig s <;> simp [extractError, hc]

/-- How command `i` ends in `s`: with the error `errorOf i s`, or, where that is none, by completing; what it writes
then does not depend on `ERR`. -/
inductive Ending (i : Instr) (s : State) : Prop
  | errs (hc : errorOf i s ≠ .noError) (h : exec i s = .next (raiseErr (errorOf i s) s))
  | completes (u : State) (hc : errorOf i s = .noError)
      (h : ∀ e, exec i { s with err := e } = .next (complete { u with err := e }))

theorem Ending.of_error {i : Instr} {s : State} {c : ErrCode} (he : errorOf i s = c) (hc : c ≠ .noError)
    (h : exec i s = .next (raiseErr c s)) : Ending i s := by
  subst he
  exact .errs hc h

/-- Every command ends in one of the two ways (R111, R117). -/
theorem exec_ending (i : Instr) (s : State) : Ending i s := by
  cases i with
  | nop => exact .completes s rfl fun e => exec_nop _
  | fdct => exact .completes { s with coef := storedCoef (fdct (samples s)) } rfl fun e => exec_fdct _
  | idct =>
    exact .completes { s with pix := clippedPix (idct (coeffs s)), clip := isClipped (idct (coeffs s)) } rfl
      fun e => exec_idct _
  | capacity => exact .completes (afterCapacity s) rfl fun e => exec_capacity _
  | cursor =>
    by_cases h : s.kidx.toNat < totalBlocks s
    · exact .completes (afterCursor s) (if_pos h) fun e => exec_cursor_completes h
    · exact .of_error (if_neg h) (by decide) (exec_cursor_outOfRange (not_lt.1 h))
  | extract =>
    obtain ⟨hc, he⟩ | ⟨hc, he⟩ := extractError_cases s
    · exact .of_error he (by decide) (exec_extract_badConfig hc)
    · exact .completes { s with resultBit := extractPair (coeffA s) (coeffB s) } he fun e => exec_extract_completes hc
  | extractBlock =>
    obtain ⟨hc, he⟩ | ⟨hc, he⟩ := extractError_cases s
    · exact .of_error he (by decide) (exec_extractBlock_badConfig hc)
    · exact .completes { s with
        coef := storedCoef (fdct (samples s))
        resultBit := extractPair (fdct (samples s) (ua s) (va s)) (fdct (samples s) (ub s) (vb s)) } he
        fun e => exec_extractBlock_completes hc
  | embed b =>
    obtain ⟨hc, he⟩ | ⟨hc, hp, he⟩ | ⟨hc, ⟨r, hp⟩, he⟩ := embedError_cases s _
    · exact .of_error he (by decide) (exec_embed_badConfig hc b)
    · exact .of_error he (by decide) (exec_embed_overflows hc hp)
    · exact .completes (storePair s r.1 r.2) he fun e => exec_embed_completes hc hp
  | embedBlock b =>
    obtain ⟨hc, he⟩ | ⟨hc, hp, he⟩ | ⟨hc, ⟨r, hp⟩, he⟩ := embedError_cases s _
    · exact .of_error he (by decide) (exec_embedBlock_badConfig hc b)
    · exact .of_error he (by decide) (exec_embedBlock_overflows hc hp)
    · exact .completes (storeEmbeddedBlock s (replacePair s (fdct (samples s)) r.1 r.2)) he
        fun e => exec_embedBlock_completes hc hp

/-- `ERR` after a command: the error it ends with where `ERR` was 0, and what it was otherwise (R117). -/
theorem exec_err {i : Instr} {s t : State} (h : exec i s = .next t) :
    t.err = if s.err = .noError then errorOf i s else s.err := by
  obtain ⟨_, he⟩ | ⟨u, hc, he⟩ := exec_ending i s
  · rw [he, Host.Outcome.next.injEq] at h
    rw [← h, raiseErr_err]
  · rw [he s.err, Host.Outcome.next.injEq] at h
    rw [← h, complete_err, hc]
    split
    · assumption
    · rfl

/-- From `ERR = 0` a command leaves its own error. -/
theorem exec_reports {i : Instr} {s : State} (hs : s.err = .noError) :
    ∃ t, exec i s = .next t ∧ t.err = errorOf i s := by
  obtain ⟨t, ht⟩ := exec_next i s
  exact ⟨t, ht, (exec_err ht).trans (if_pos hs)⟩

/-! ## The codes -/

theorem extractError_eq_badConfig_iff (s : State) :
    extractError s = .badConfig ↔ s.posAU = s.posBU ∧ s.posAV = s.posBV := by
  rw [← badExtractConfig_iff]
  obtain ⟨hc, he⟩ | ⟨hc, he⟩ := extractError_cases s <;> simp [hc, he]

theorem embedError_eq_badConfig_iff (s : State) (pair : Option (Int × Int)) :
    embedError s pair = .badConfig ↔
      (s.posAU = s.posBU ∧ s.posAV = s.posBV) ∨ s.stepReg = 0 ∨ s.marginReg = 0 := by
  rw [← badEmbedConfig_iff]
  obtain ⟨hc, he⟩ | ⟨hc, _, he⟩ | ⟨hc, _, he⟩ := embedError_cases s pair <;> simp [hc, he]

/-- Settles O28: `BAD_CONFIG` is the first error tested by the commands that can end with it. -/
theorem badConfigExactlyWhen : Obligations.BadConfigExactlyWhen := by
  intro i s hs
  obtain ⟨t, ht, he⟩ := exec_reports (i := i) hs
  refine ⟨t, ht, ?_⟩
  rw [he]
  cases i with
  | embed b | embedBlock b => exact embedError_eq_badConfig_iff s _
  | extract | extractBlock => exact extractError_eq_badConfig_iff s
  | cursor => simp only [errorOf]; split <;> simp
  | nop | fdct | idct | capacity => simp [errorOf]

theorem extractError_mem (s : State) : extractError s ∈ [.noError, .badConfig] := by
  obtain ⟨_, he⟩ | ⟨_, he⟩ := extractError_cases s <;> simp [he]

theorem embedError_mem (s : State) (pair : Option (Int × Int)) :
    embedError s pair ∈ [.noError, .badConfig, .coefOvf] := by
  obtain ⟨_, he⟩ | ⟨_, _, he⟩ | ⟨_, _, he⟩ := embedError_cases s pair <;> simp [he]

/-- Settles O29: the values of `errorOf`, command by command. -/
theorem errorCodesPerCommand : Obligations.ErrorCodesPerCommand := by
  intro i s hs
  obtain ⟨t, ht, he⟩ := exec_reports (i := i) hs
  refine ⟨t, ht, ?_⟩
  rw [he]
  cases i with
  | embed b | embedBlock b => exact embedError_mem s _
  | extract | extractBlock => exact extractError_mem s
  | cursor => simp only [errorOf]; split <;> simp
  | nop | fdct | idct | capacity => simp [errorOf]

/-! ## Precise and sticky errors -/

/-- A command that errs only ends (R111, R118). -/
theorem exec_of_errs {i : Instr} {s : State} (h : errorOf i s ≠ .noError) :
    exec i s = .next (raiseErr (errorOf i s) s) := by
  obtain ⟨_, he⟩ | ⟨_, hc, _⟩ := exec_ending i s
  · exact he
  · exact absurd hc h

/-- Settles O30: whether a command or a write errs does not depend on `ERR`, and what errs changes only the fields
named. -/
theorem errorsChangeNothingElse : Obligations.ErrorsChangeNothingElse := by
  refine ⟨fun i s t ht he => ?_, fun off v s h => ?_⟩
  · rw [exec_err ht] at he
    have errs : errorOf i s ≠ .noError := he
    exact ⟨_, exec_of_errs errs, rfl⟩
  · obtain ⟨err, done, hw⟩ := busWrite_of_errs h
    exact ⟨_, hw, rfl⟩

/-- A command does the same whatever `ERR` is, up to `ERR` itself (R117). -/
theorem exec_sameUpToErr (i : Instr) (s : State) : ∃ t u, exec i { s with err := .noError } = .next t ∧
    exec i s = .next u ∧ { u with err := .noError } = { t with err := .noError } := by
  obtain ⟨hc, he⟩ | ⟨u, _, he⟩ := exec_ending i s
  · exact ⟨_, _, exec_of_errs (s := { s with err := .noError }) hc, he, rfl⟩
  · exact ⟨_, _, he .noError, he s.err, rfl⟩

/-- Settles O31: of the steps, an engine step keeps an `ERR` that is not 0, and so does every write but the one
named. -/
theorem firstErrorIsSticky : Obligations.FirstErrorIsSticky := by
  refine ⟨fun s t h hs ht => ?_, exec_sameUpToErr, fun i s hb => ?_⟩
  · obtain ⟨hn, rfl⟩ | ⟨_, _, _, u, _, _, hu, rfl⟩ | ⟨hn, off, v, rest, hscript, rfl⟩ | ⟨_, _, rfl⟩ := step_cases h
    · exact ⟨rfl, .inl hn⟩
    · exact absurd ((exec_err hu).trans (if_neg hs)) ht
    · obtain ⟨cleared, hl, hv⟩ := busWrite_changes_err (s := dropTurn s) hs ht
      exact ⟨cleared, .inr ⟨hn, off, v, rest, hscript, hl, hv⟩⟩
    · exact absurd rfl ht
  · exact (busWrite_reg (locOf_offsetOf .cmd) _ s).trans (writeCmd_encode hb i)

end Sys2Proof.Machine
end

-- ==== Proofs of the family 60_exceptions: the interrupt level and several engines ====
section
namespace Sys2Proof.Machine

/-! ## The interrupt level -/

/-- The formula of R122. -/
theorem irq_iff (s : State) : irq s = true ↔ s.ie = true ∧ (s.done = true ∨ s.err ≠ .noError) := by
  simp [irq]

/-- An error at a write raises `irq` when it is enabled (R122). -/
theorem irq_setErr {c : ErrCode} (hc : c ≠ .noError) {s : State} (hi : s.ie = true) : irq (setErr c s) = true :=
  (irq_iff _).2 ⟨hi, .inr (setErr_err_ne hc s)⟩

/-- With `DONE = 1` the level is the enable (R122). -/
theorem irq_of_done {s : State} (h : s.done = true) : irq s = s.ie := by
  simp [irq, h]

/-- Settles O23: each clause is the formula on the state after the write or the engine step. -/
theorem interruptFollowsCompletionAndClear : Obligations.InterruptFollowsCompletionAndClear := by
  refine ⟨irq_iff, fun s w hi hb => ?_, fun s w hi hb hd => ?_, fun s v off hi hb h => ?_, fun i s => ?_,
    fun s => ?_, fun s => ?_⟩
  · obtain ⟨dropped, _, _⟩ := cmdWriteRule s w
    rw [dropped hb]
    exact ⟨irq_setErr (c := .busy) (by decide) hi, rfl⟩
  · obtain ⟨_, refusal⟩ := legalityTestAndRefusal
    rw [refusal w s hb hd]
    exact (irq_of_done rfl).trans hi
  · rw [protectedWritesAreIgnoredWhileBusy s v off hb h]
    exact irq_setErr (c := .busy) (by decide) hi
  · obtain ⟨t, ht, _, hdone, _, hie, _⟩ := everyCommandEndsIdleAndDone i s
    exact ⟨t, ht, (irq_of_done hdone).trans hie⟩
  · obtain ⟨cleared, _⟩ := statusWriteRule s 0x0000000A
    rw [cleared]
    simp [irq]
  · rw [show busWrite 0x004 0 s = { s with ie := false } from busWrite_reg (locOf_offsetOf .ctrl) 0 s]
    exact ⟨rfl, rfl, rfl⟩

/-! ## Several engines -/

/-- A step of engine `k` replaces the state of slot `k` (R128). -/
theorem stepEngine_next {p : List Slot} {k : Nat} {x : Slot} {t : State} (hk : p[k]? = some x)
    (h : step x.engine = .next t) : stepEngine p k = .next (p.set k { x with engine := t }) := by
  simp only [stepEngine, hk, h]

/-- Replacing an element by one with the same image keeps the images. -/
theorem map_set_of_getElem? {α β : Type} {f : α → β} {l : List α} {k : Nat} {x y : α} (hk : l[k]? = some x)
    (h : f y = f x) : (l.set k y).map f = l.map f := by
  obtain ⟨hlt, rfl⟩ := List.getElem?_eq_some_iff.1 hk
  rw [List.map_set, h, ← List.getElem_map f (h := (List.length_map f).symm ▸ hlt), List.set_getElem_self]

/-- The slot of engine `k` after reset (R128, R131). -/
theorem resetPlatform_getElem? (bases : List Nat) (k : Nat) :
    (resetPlatform bases)[k]? = bases[k]?.map fun b => { base := b, engine := resetEngine k } := by
  rw [resetPlatform, List.getElem?_map, List.getElem?_zipIdx, Option.map_map, Nat.zero_add]
  rfl

/-- After reset every line is 0 (R122). -/
theorem irqLines_resetPlatform (bases : List Nat) :
    irqLines (resetPlatform bases) = List.replicate bases.length false := by
  simp only [irqLines, resetPlatform, List.map_map, Function.comp_def, irq_resetEngine, List.map_const',
    List.length_zipIdx]

/-- Settles O60: the step writes one slot of the list, and keeps that engine's `BASE` and number. -/
theorem enginesShareNoState : Obligations.EnginesShareNoState := by
  refine ⟨fun p k x t hk h => ⟨_, stepEngine_next hk h, ?_, fun j hj => List.getElem?_set_ne hj.symm,
    map_set_of_getElem? hk rfl, map_set_of_getElem? hk (step_engineId h)⟩, resetPlatform_getElem?,
    irqLines_resetPlatform⟩
  obtain ⟨hlt, _⟩ := List.getElem?_eq_some_iff.1 hk
  exact List.getElem?_set_self hlt

end Sys2Proof.Machine
end

-- ==== Proofs of the family 70_reset_and_hazards: the free values behind unwritten elements ====
section
namespace Sys2Proof.Machine

/-! ## Other free values -/

/-- `s` as engine `k` after `r` resets: the same state with other free values behind unwritten elements (R133, U1). -/
def withFreeValues (k r : Nat) (s : State) : State := { s with engineId := k, resets := r }

/-- Command `i` gives the same result from `s` whatever the unwritten elements hold. -/
def HidesFreeValues (k r : Nat) (i : Instr) (s : State) : Prop :=
  ∃ t, exec i s = .next t ∧ exec i (withFreeValues k r s) = .next (withFreeValues k r t)

/-! ## What written elements read as -/

/-- In a block with every element written, each one is. -/
theorem isSome_of_all {α : Type} {b : Block (Option α)} (h : b.toList.all Option.isSome = true) (e : Fin 64) :
    b[e].isSome = true :=
  List.all_eq_true.1 h _ (Vector.mem_toList_iff.2 (Vector.getElem_mem e.isLt))

theorem sampleAt_withFreeValues {s : State} {e : Fin 64} (h : s.pix[e].isSome = true) (k r : Nat) :
    sampleAt (withFreeValues k r s) e = sampleAt s e := by
  obtain ⟨x, hx⟩ := Option.isSome_iff_exists.1 h
  simp only [sampleAt, withFreeValues, hx, Option.getD_some]

theorem coeffAt_withFreeValues {s : State} {e : Fin 64} (h : s.coef[e].isSome = true) (k r : Nat) :
    coeffAt (withFreeValues k r s) e = coeffAt s e := by
  obtain ⟨x, hx⟩ := Option.isSome_iff_exists.1 h
  simp only [coeffAt, withFreeValues, hx, Option.getD_some]

theorem samples_withFreeValues {s : State} (h : pixWritten s = true) (k r : Nat) :
    samples (withFreeValues k r s) = samples s :=
  funext₂ fun i j => congrArg zext (sampleAt_withFreeValues (isSome_of_all h (elt i j)) k r)

theorem coeffs_withFreeValues {s : State} (h : coefWritten s = true) (k r : Nat) :
    coeffs (withFreeValues k r s) = coeffs s :=
  funext₂ fun u v => congrArg sext (coeffAt_withFreeValues (isSome_of_all h (elt u v)) k r)

theorem pair_withFreeValues {s : State} (h : pairWritten s = true) (k r : Nat) :
    coeffA (withFreeValues k r s) = coeffA s ∧ coeffB (withFreeValues k r s) = coeffB s := by
  obtain ⟨ha, hb⟩ := (Bool.and_eq_true _ _).mp h
  exact ⟨congrArg sext (coeffAt_withFreeValues ha k r), congrArg sext (coeffAt_withFreeValues hb k r)⟩

/-! ## The commands -/

theorem fdct_hidesFreeValues {s : State} (h : pixWritten s = true) (k r : Nat) : HidesFreeValues k r .fdct s := by
  refine ⟨_, exec_fdct s, ?_⟩
  rw [exec_fdct, afterFdct, samples_withFreeValues h]
  rfl

theorem idct_hidesFreeValues {s : State} (h : coefWritten s = true) (k r : Nat) : HidesFreeValues k r .idct s := by
  refine ⟨_, exec_idct s, ?_⟩
  rw [exec_idct, coeffs_withFreeValues h]
  rfl

theorem cursor_hidesFreeValues (s : State) (k r : Nat) : HidesFreeValues k r .cursor s := by
  by_cases h : s.kidx.toNat < totalBlocks s
  · exact ⟨_, exec_cursor_completes h, exec_cursor_completes (s := withFreeValues k r s) h⟩
  · exact ⟨_, exec_cursor_outOfRange (not_lt.1 h), exec_cursor_outOfRange (s := withFreeValues k r s) (not_lt.1 h)⟩

theorem embed_hidesFreeValues {s : State} (h : pairWritten s = true) (b : BitVec 1) (k r : Nat) :
    HidesFreeValues k r (.embed b) s := by
  obtain ⟨hA, hB⟩ := pair_withFreeValues h k r
  obtain ⟨hc, -⟩ | ⟨hc, hp, -⟩ | ⟨hc, ⟨x, hp⟩, -⟩ := embedError_cases s
    (embedPair (coeffA s) (coeffB s) b (stepS s) (marginM s))
  · exact ⟨_, exec_embed_badConfig hc b, exec_embed_badConfig (s := withFreeValues k r s) hc b⟩
  · refine ⟨_, exec_embed_overflows hc hp, ?_⟩
    rw [← hA, ← hB] at hp
    exact exec_embed_overflows (s := withFreeValues k r s) hc hp
  · refine ⟨_, exec_embed_completes hc hp, ?_⟩
    rw [← hA, ← hB] at hp
    exact exec_embed_completes (s := withFreeValues k r s) hc hp

theorem extract_hidesFreeValues {s : State} (h : pairWritten s = true) (k r : Nat) :
    HidesFreeValues k r .extract s := by
  obtain ⟨hA, hB⟩ := pair_withFreeValues h k r
  obtain ⟨hc, -⟩ | ⟨hc, -⟩ := extractError_cases s
  · exact ⟨_, exec_extract_badConfig hc, exec_extract_badConfig (s := withFreeValues k r s) hc⟩
  · refine ⟨_, exec_extract_completes hc, ?_⟩
    rw [exec_extract_completes (s := withFreeValues k r s) hc, hA, hB]
    rfl

theorem embedBlock_hidesFreeValues {s : State} (h : pixWritten s = true) (b : BitVec 1) (k r : Nat) :
    HidesFreeValues k r (.embedBlock b) s := by
  have hs := samples_withFreeValues h k r
  obtain ⟨hc, -⟩ | ⟨hc, hp, -⟩ | ⟨hc, ⟨x, hp⟩, -⟩ := embedError_cases s
    (embedPair (fdct (samples s) (ua s) (va s)) (fdct (samples s) (ub s) (vb s)) b (stepS s) (marginM s))
  · exact ⟨_, exec_embedBlock_badConfig hc b, exec_embedBlock_badConfig (s := withFreeValues k r s) hc b⟩
  · refine ⟨_, exec_embedBlock_overflows hc hp, ?_⟩
    rw [← hs] at hp
    exact exec_embedBlock_overflows (s := withFreeValues k r s) hc hp
  · refine ⟨_, exec_embedBlock_completes hc hp, ?_⟩
    rw [← hs] at hp
    rw [exec_embedBlock_completes (s := withFreeValues k r s) hc hp, hs]
    rfl

theorem extractBlock_hidesFreeValues {s : State} (h : pixWritten s = true) (k r : Nat) :
    HidesFreeValues k r .extractBlock s := by
  obtain ⟨hc, -⟩ | ⟨hc, -⟩ := extractError_cases s
  · exact ⟨_, exec_extractBlock_badConfig hc, exec_extractBlock_badConfig (s := withFreeValues k r s) hc⟩
  · refine ⟨_, exec_extractBlock_completes hc, ?_⟩
    rw [exec_extractBlock_completes (s := withFreeValues k r s) hc, samples_withFreeValues h]
    rfl

/-- Settles O34: a command reads the free values through its buffer inputs only, and written elements hide them. -/
theorem writtenInputsHideTheFreeValues : Obligations.WrittenInputsHideTheFreeValues := by
  intro i s k r h
  change HidesFreeValues k r i s
  cases i with
  | nop => exact ⟨_, exec_nop s, exec_nop _⟩
  | capacity => exact ⟨_, exec_capacity s, exec_capacity _⟩
  | cursor => exact cursor_hidesFreeValues s k r
  | fdct => exact fdct_hidesFreeValues h k r
  | idct => exact idct_hidesFreeValues h k r
  | embed b => exact embed_hidesFreeValues h b k r
  | extract => exact extract_hidesFreeValues h k r
  | embedBlock b => exact embedBlock_hidesFreeValues h b k r
  | extractBlock => exact extractBlock_hidesFreeValues h k r

end Sys2Proof.Machine
end

-- ==== Proofs of the family 70_reset_and_hazards: reset ====
section
namespace Sys2Proof.Machine

/-! ## The reset state -/

/-- Settles O6: the engine is idle after reset, with nothing latched. -/
theorem resetStateMeetsInvariant : Obligations.ResetStateMeetsInvariant := protocolInv_of_idle rfl rfl

/-- After reset a read of a register returns its contents: the engine is idle (R55). -/
theorem busRead_reset (r : Reg) : busRead State.reset (offsetOf r) = regWord State.reset r :=
  busRead_reg_whileIdle (locOf_offsetOf r) rfl

/-- Settles O11: each register at its offset, then the buffers. -/
theorem resetValues : Obligations.ResetValues :=
  ⟨busRead_reset .id, busRead_reset .ctrl, busRead_reset .status, busRead_reset .cmd, rfl, busRead_reset .pos,
    busRead_reset .step, busRead_reset .margin, busRead_reset .result, busRead_reset .frameW, busRead_reset .frameH,
    busRead_reset .frameCnt, busRead_reset .hdrW, busRead_reset .kidx, busRead_reset .curFrame, busRead_reset .curBy,
    busRead_reset .curBx, busRead_reset .capBits, busRead_reset .capBytes,
    fun e => ⟨Vector.getElem_replicate e.isLt, Vector.getElem_replicate e.isLt⟩, rfl⟩

/-! ## The reset input -/

/-- The reset's turn: the input is asserted at once, whatever the engine is doing (R131). -/
theorem step_reset {s : State} (h : nextTurn s = .reset) : step s = .next (assertReset (dropTurn s)) := by
  rw [step_eq, h, takeTurn]

/-- Settles O12: the state after the reset's turn is `assertReset` written out. -/
theorem resetInputAbandonsTheCommand : Obligations.ResetInputAbandonsTheCommand := by
  intro s ts hts
  have tail : (dropTurn s).turns = ts := congrArg List.tail hts
  refine ⟨_, step_reset (by rw [nextTurn, hts]), rfl, rfl, rfl, ?_⟩
  rw [assertReset, tail]
  rfl

end Sys2Proof.Machine
end
